-- ==== Sys2Proof/Word.lean ====
section
/-! DEFINITION. The two word types of the machine (00_scope.md R7): bytes and 16-bit addresses. -/

namespace Sys2Proof

/-- A `u8` (R7). -/
abbrev Byte := BitVec 8

/-- A `u16`: a CPU address or program counter (R7, R60). -/
abbrev Addr := BitVec 16

end Sys2Proof
end

