-- ==== Sys2Proof/Machine/Bits.lean ====
section
/-! DEFINITION. Bit-field helpers: one-bit values, bit-field replacement, sign extension, byte reversal
(00_scope.md R7, R9, 62_ppu.md R381). -/

namespace Sys2Proof.Machine

/-- Bit `k` of a value, 1 or 0 by `b`. -/
def bitAt (w : Nat) (b : Bool) (k : Nat) : BitVec w := if b then 1#w <<< k else 0#w

/-- `x` with bit `k` made `b`. -/
def setBit {w : Nat} (x : BitVec w) (k : Nat) (b : Bool) : BitVec w := (x &&& ~~~(1#w <<< k)) ||| bitAt w b k

/-- `x` with the bits `x[lo+n-1 : lo]` replaced by `v` (R7). -/
def setField {w n : Nat} (x : BitVec w) (lo : Nat) (v : BitVec n) : BitVec w :=
  (x &&& ~~~((BitVec.allOnes n).setWidth w <<< lo)) ||| (v.setWidth w <<< lo)

/-- Zero extension of a byte to 16 bits (R9). -/
def zext16 (v : Byte) : Addr := v.setWidth 16

/-- Sign extension of a byte to 16 bits: `v` if `v[7] = 0`, else `0xFF00 | v` (R9). -/
def sext16 (v : Byte) : Addr := if v.getLsbD 7 then 0xFF00 ||| v.setWidth 16 else v.setWidth 16

/-- `page(a) = a[15:8]` (R7). -/
def page (a : Addr) : Byte := a.extractLsb' 8 8

/-- The low byte `a[7:0]`. -/
def lowByte (a : Addr) : Byte := a.extractLsb' 0 8

/-- `rev8`: the 8 bits reversed (62_ppu.md R381). -/
def rev8 (v : Byte) : Byte := v.reverse

end Sys2Proof.Machine
end

