-- ==== Sys2Proof/Syntax.lean ====
section
/-! DEFINITION. The instruction syntax of ISA-6502N: the thirteen formats (30_encoding.md R101), the mnemonics
(R111), and `Instr`, one constructor for each of the 256 rows of spec/opcode_table.json (R110).
A constructor carries the operand bytes of its format: one byte, or the 16-bit value of two. -/

namespace Sys2Proof

/-- The 56 documented mnemonics (30_encoding.md R111), and the 105 illegal opcodes `ILL_hh` named by their byte
(R112). -/
inductive Mnem where
  | lda | ldx | ldy | sta | stx | sty | tax | tay
  | txa | tya | tsx | txs | pha | php | pla | plp
  | and | ora | eor | bit | adc | sbc | cmp | cpx
  | cpy | inc | dec | inx | iny | dex | dey | asl
  | lsr | rol | ror | jmp | jsr | rts | bcc | bcs
  | beq | bne | bmi | bpl | bvc | bvs | clc | sec
  | cli | sei | cld | sed | clv | nop | brk | rti
  | ill (op : Byte)
deriving DecidableEq, Repr

/-- The thirteen formats (30_encoding.md R101). -/
inductive Format where
  | imp | acc | imm | zp0 | zpx | zpy | izx | izy | abs | abx | aby | ind | rel
deriving DecidableEq, Repr

/-- Length in bytes of an instruction of each format (R101). -/
def Format.length : Format → Nat
  | .imp | .acc => 1
  | .imm | .zp0 | .zpx | .zpy | .izx | .izy | .rel => 2
  | .abs | .abx | .aby | .ind => 3

/-- The formats whose operand is the byte at an effective address, with their operand bytes (R133 to R140, R142). -/
inductive MemMode where
  | zp0 (z : Byte) | zpx (z : Byte) | zpy (z : Byte)
  | izx (z : Byte) | izy (z : Byte)
  | abs (a : Addr) | abx (a : Addr) | aby (a : Addr)
  | ind (p : Addr)
deriving DecidableEq, Repr

/-- An instruction's operand: its format with the operand bytes filled in. `imm` stands apart from the memory
formats because its byte is an instruction byte (R132). -/
inductive Mode where
  | imp | acc
  | imm (v : Byte)
  | mem (m : MemMode)
  | rel (r : Byte)
deriving DecidableEq, Repr

def MemMode.format : MemMode → Format
  | .zp0 _ => .zp0 | .zpx _ => .zpx | .zpy _ => .zpy
  | .izx _ => .izx | .izy _ => .izy
  | .abs _ => .abs | .abx _ => .abx | .aby _ => .aby
  | .ind _ => .ind

def Mode.format : Mode → Format
  | .imp => .imp | .acc => .acc | .imm _ => .imm | .mem m => m.format | .rel _ => .rel

/-- A line of assembly: a mnemonic with an operand (R118). Not every pair is an instruction; `Line.wellFormed` says
which are. -/
structure Line where
  mnem : Mnem
  mode : Mode
deriving DecidableEq, Repr

/-- One constructor per row of spec/opcode_table.json. -/
inductive Instr where
  | ldaIzx (z : Byte) | ldaZp0 (z : Byte) | ldaImm (v : Byte) | ldaAbs (a : Addr) | ldaIzy (z : Byte)
  | ldaZpx (z : Byte) | ldaAby (a : Addr) | ldaAbx (a : Addr)
  | ldxImm (v : Byte) | ldxZp0 (z : Byte) | ldxAbs (a : Addr) | ldxZpy (z : Byte) | ldxAby (a : Addr)
  | ldyImm (v : Byte) | ldyZp0 (z : Byte) | ldyAbs (a : Addr) | ldyZpx (z : Byte) | ldyAbx (a : Addr)
  | staIzx (z : Byte) | staZp0 (z : Byte) | staAbs (a : Addr) | staIzy (z : Byte) | staZpx (z : Byte)
  | staAby (a : Addr) | staAbx (a : Addr)
  | stxZp0 (z : Byte) | stxAbs (a : Addr) | stxZpy (z : Byte)
  | styZp0 (z : Byte) | styAbs (a : Addr) | styZpx (z : Byte)
  | tax | tay | txa | tya | tsx | txs | pha | php | pla | plp
  | andIzx (z : Byte) | andZp0 (z : Byte) | andImm (v : Byte) | andAbs (a : Addr) | andIzy (z : Byte)
  | andZpx (z : Byte) | andAby (a : Addr) | andAbx (a : Addr)
  | oraIzx (z : Byte) | oraZp0 (z : Byte) | oraImm (v : Byte) | oraAbs (a : Addr) | oraIzy (z : Byte)
  | oraZpx (z : Byte) | oraAby (a : Addr) | oraAbx (a : Addr)
  | eorIzx (z : Byte) | eorZp0 (z : Byte) | eorImm (v : Byte) | eorAbs (a : Addr) | eorIzy (z : Byte)
  | eorZpx (z : Byte) | eorAby (a : Addr) | eorAbx (a : Addr)
  | bitZp0 (z : Byte) | bitAbs (a : Addr)
  | adcIzx (z : Byte) | adcZp0 (z : Byte) | adcImm (v : Byte) | adcAbs (a : Addr) | adcIzy (z : Byte)
  | adcZpx (z : Byte) | adcAby (a : Addr) | adcAbx (a : Addr)
  | sbcIzx (z : Byte) | sbcZp0 (z : Byte) | sbcImm (v : Byte) | sbcAbs (a : Addr) | sbcIzy (z : Byte)
  | sbcZpx (z : Byte) | sbcAby (a : Addr) | sbcAbx (a : Addr)
  | cmpIzx (z : Byte) | cmpZp0 (z : Byte) | cmpImm (v : Byte) | cmpAbs (a : Addr) | cmpIzy (z : Byte)
  | cmpZpx (z : Byte) | cmpAby (a : Addr) | cmpAbx (a : Addr)
  | cpxImm (v : Byte) | cpxZp0 (z : Byte) | cpxAbs (a : Addr)
  | cpyImm (v : Byte) | cpyZp0 (z : Byte) | cpyAbs (a : Addr)
  | incZp0 (z : Byte) | incAbs (a : Addr) | incZpx (z : Byte) | incAbx (a : Addr)
  | decZp0 (z : Byte) | decAbs (a : Addr) | decZpx (z : Byte) | decAbx (a : Addr)
  | inx | iny | dex | dey
  | aslZp0 (z : Byte) | aslAcc | aslAbs (a : Addr) | aslZpx (z : Byte) | aslAbx (a : Addr)
  | lsrZp0 (z : Byte) | lsrAcc | lsrAbs (a : Addr) | lsrZpx (z : Byte) | lsrAbx (a : Addr)
  | rolZp0 (z : Byte) | rolAcc | rolAbs (a : Addr) | rolZpx (z : Byte) | rolAbx (a : Addr)
  | rorZp0 (z : Byte) | rorAcc | rorAbs (a : Addr) | rorZpx (z : Byte) | rorAbx (a : Addr)
  | jmpAbs (a : Addr) | jmpInd (p : Addr)
  | jsrAbs (a : Addr)
  | rts | bcc (r : Byte) | bcs (r : Byte) | beq (r : Byte) | bne (r : Byte) | bmi (r : Byte) | bpl (r : Byte)
  | bvc (r : Byte) | bvs (r : Byte) | clc | sec | cli | sei | cld | sed | clv | nop | brk | rti
  | ill02 | ill03 | ill04 | ill07 | ill0B | ill0C | ill0F | ill12 | ill13 | ill14 | ill17 | ill1A | ill1B | ill1C
  | ill1F | ill22 | ill23 | ill27 | ill2B | ill2F | ill32 | ill33 | ill34 | ill37 | ill3A | ill3B | ill3C | ill3F
  | ill42 | ill43 | ill44 | ill47 | ill4B | ill4F | ill52 | ill53 | ill54 | ill57 | ill5A | ill5B | ill5C | ill5F
  | ill62 | ill63 | ill64 | ill67 | ill6B | ill6F | ill72 | ill73 | ill74 | ill77 | ill7A | ill7B | ill7C | ill7F
  | ill80 | ill82 | ill83 | ill87 | ill89 | ill8B | ill8F | ill92 | ill93 | ill97 | ill9B | ill9C | ill9E | ill9F
  | illA3 | illA7 | illAB | illAF | illB2 | illB3 | illB7 | illBB | illBF | illC2 | illC3 | illC7 | illCB | illCF
  | illD2 | illD3 | illD4 | illD7 | illDA | illDB | illDC | illDF | illE2 | illE3 | illE7 | illEB | illEF | illF2
  | illF3 | illF4 | illF7 | illFA | illFB | illFC | illFF
deriving DecidableEq, Repr

/-- The row of an instruction: its mnemonic and its operand (R110, R111). -/
def Instr.line : Instr → Line
  | .ldaIzx z => ⟨.lda, (.mem (.izx z))⟩
  | .ldaZp0 z => ⟨.lda, (.mem (.zp0 z))⟩
  | .ldaImm v => ⟨.lda, (.imm v)⟩
  | .ldaAbs a => ⟨.lda, (.mem (.abs a))⟩
  | .ldaIzy z => ⟨.lda, (.mem (.izy z))⟩
  | .ldaZpx z => ⟨.lda, (.mem (.zpx z))⟩
  | .ldaAby a => ⟨.lda, (.mem (.aby a))⟩
  | .ldaAbx a => ⟨.lda, (.mem (.abx a))⟩
  | .ldxImm v => ⟨.ldx, (.imm v)⟩
  | .ldxZp0 z => ⟨.ldx, (.mem (.zp0 z))⟩
  | .ldxAbs a => ⟨.ldx, (.mem (.abs a))⟩
  | .ldxZpy z => ⟨.ldx, (.mem (.zpy z))⟩
  | .ldxAby a => ⟨.ldx, (.mem (.aby a))⟩
  | .ldyImm v => ⟨.ldy, (.imm v)⟩
  | .ldyZp0 z => ⟨.ldy, (.mem (.zp0 z))⟩
  | .ldyAbs a => ⟨.ldy, (.mem (.abs a))⟩
  | .ldyZpx z => ⟨.ldy, (.mem (.zpx z))⟩
  | .ldyAbx a => ⟨.ldy, (.mem (.abx a))⟩
  | .staIzx z => ⟨.sta, (.mem (.izx z))⟩
  | .staZp0 z => ⟨.sta, (.mem (.zp0 z))⟩
  | .staAbs a => ⟨.sta, (.mem (.abs a))⟩
  | .staIzy z => ⟨.sta, (.mem (.izy z))⟩
  | .staZpx z => ⟨.sta, (.mem (.zpx z))⟩
  | .staAby a => ⟨.sta, (.mem (.aby a))⟩
  | .staAbx a => ⟨.sta, (.mem (.abx a))⟩
  | .stxZp0 z => ⟨.stx, (.mem (.zp0 z))⟩
  | .stxAbs a => ⟨.stx, (.mem (.abs a))⟩
  | .stxZpy z => ⟨.stx, (.mem (.zpy z))⟩
  | .styZp0 z => ⟨.sty, (.mem (.zp0 z))⟩
  | .styAbs a => ⟨.sty, (.mem (.abs a))⟩
  | .styZpx z => ⟨.sty, (.mem (.zpx z))⟩
  | .tax => ⟨.tax, .imp⟩
  | .tay => ⟨.tay, .imp⟩
  | .txa => ⟨.txa, .imp⟩
  | .tya => ⟨.tya, .imp⟩
  | .tsx => ⟨.tsx, .imp⟩
  | .txs => ⟨.txs, .imp⟩
  | .pha => ⟨.pha, .imp⟩
  | .php => ⟨.php, .imp⟩
  | .pla => ⟨.pla, .imp⟩
  | .plp => ⟨.plp, .imp⟩
  | .andIzx z => ⟨.and, (.mem (.izx z))⟩
  | .andZp0 z => ⟨.and, (.mem (.zp0 z))⟩
  | .andImm v => ⟨.and, (.imm v)⟩
  | .andAbs a => ⟨.and, (.mem (.abs a))⟩
  | .andIzy z => ⟨.and, (.mem (.izy z))⟩
  | .andZpx z => ⟨.and, (.mem (.zpx z))⟩
  | .andAby a => ⟨.and, (.mem (.aby a))⟩
  | .andAbx a => ⟨.and, (.mem (.abx a))⟩
  | .oraIzx z => ⟨.ora, (.mem (.izx z))⟩
  | .oraZp0 z => ⟨.ora, (.mem (.zp0 z))⟩
  | .oraImm v => ⟨.ora, (.imm v)⟩
  | .oraAbs a => ⟨.ora, (.mem (.abs a))⟩
  | .oraIzy z => ⟨.ora, (.mem (.izy z))⟩
  | .oraZpx z => ⟨.ora, (.mem (.zpx z))⟩
  | .oraAby a => ⟨.ora, (.mem (.aby a))⟩
  | .oraAbx a => ⟨.ora, (.mem (.abx a))⟩
  | .eorIzx z => ⟨.eor, (.mem (.izx z))⟩
  | .eorZp0 z => ⟨.eor, (.mem (.zp0 z))⟩
  | .eorImm v => ⟨.eor, (.imm v)⟩
  | .eorAbs a => ⟨.eor, (.mem (.abs a))⟩
  | .eorIzy z => ⟨.eor, (.mem (.izy z))⟩
  | .eorZpx z => ⟨.eor, (.mem (.zpx z))⟩
  | .eorAby a => ⟨.eor, (.mem (.aby a))⟩
  | .eorAbx a => ⟨.eor, (.mem (.abx a))⟩
  | .bitZp0 z => ⟨.bit, (.mem (.zp0 z))⟩
  | .bitAbs a => ⟨.bit, (.mem (.abs a))⟩
  | .adcIzx z => ⟨.adc, (.mem (.izx z))⟩
  | .adcZp0 z => ⟨.adc, (.mem (.zp0 z))⟩
  | .adcImm v => ⟨.adc, (.imm v)⟩
  | .adcAbs a => ⟨.adc, (.mem (.abs a))⟩
  | .adcIzy z => ⟨.adc, (.mem (.izy z))⟩
  | .adcZpx z => ⟨.adc, (.mem (.zpx z))⟩
  | .adcAby a => ⟨.adc, (.mem (.aby a))⟩
  | .adcAbx a => ⟨.adc, (.mem (.abx a))⟩
  | .sbcIzx z => ⟨.sbc, (.mem (.izx z))⟩
  | .sbcZp0 z => ⟨.sbc, (.mem (.zp0 z))⟩
  | .sbcImm v => ⟨.sbc, (.imm v)⟩
  | .sbcAbs a => ⟨.sbc, (.mem (.abs a))⟩
  | .sbcIzy z => ⟨.sbc, (.mem (.izy z))⟩
  | .sbcZpx z => ⟨.sbc, (.mem (.zpx z))⟩
  | .sbcAby a => ⟨.sbc, (.mem (.aby a))⟩
  | .sbcAbx a => ⟨.sbc, (.mem (.abx a))⟩
  | .cmpIzx z => ⟨.cmp, (.mem (.izx z))⟩
  | .cmpZp0 z => ⟨.cmp, (.mem (.zp0 z))⟩
  | .cmpImm v => ⟨.cmp, (.imm v)⟩
  | .cmpAbs a => ⟨.cmp, (.mem (.abs a))⟩
  | .cmpIzy z => ⟨.cmp, (.mem (.izy z))⟩
  | .cmpZpx z => ⟨.cmp, (.mem (.zpx z))⟩
  | .cmpAby a => ⟨.cmp, (.mem (.aby a))⟩
  | .cmpAbx a => ⟨.cmp, (.mem (.abx a))⟩
  | .cpxImm v => ⟨.cpx, (.imm v)⟩
  | .cpxZp0 z => ⟨.cpx, (.mem (.zp0 z))⟩
  | .cpxAbs a => ⟨.cpx, (.mem (.abs a))⟩
  | .cpyImm v => ⟨.cpy, (.imm v)⟩
  | .cpyZp0 z => ⟨.cpy, (.mem (.zp0 z))⟩
  | .cpyAbs a => ⟨.cpy, (.mem (.abs a))⟩
  | .incZp0 z => ⟨.inc, (.mem (.zp0 z))⟩
  | .incAbs a => ⟨.inc, (.mem (.abs a))⟩
  | .incZpx z => ⟨.inc, (.mem (.zpx z))⟩
  | .incAbx a => ⟨.inc, (.mem (.abx a))⟩
  | .decZp0 z => ⟨.dec, (.mem (.zp0 z))⟩
  | .decAbs a => ⟨.dec, (.mem (.abs a))⟩
  | .decZpx z => ⟨.dec, (.mem (.zpx z))⟩
  | .decAbx a => ⟨.dec, (.mem (.abx a))⟩
  | .inx => ⟨.inx, .imp⟩
  | .iny => ⟨.iny, .imp⟩
  | .dex => ⟨.dex, .imp⟩
  | .dey => ⟨.dey, .imp⟩
  | .aslZp0 z => ⟨.asl, (.mem (.zp0 z))⟩
  | .aslAcc => ⟨.asl, .acc⟩
  | .aslAbs a => ⟨.asl, (.mem (.abs a))⟩
  | .aslZpx z => ⟨.asl, (.mem (.zpx z))⟩
  | .aslAbx a => ⟨.asl, (.mem (.abx a))⟩
  | .lsrZp0 z => ⟨.lsr, (.mem (.zp0 z))⟩
  | .lsrAcc => ⟨.lsr, .acc⟩
  | .lsrAbs a => ⟨.lsr, (.mem (.abs a))⟩
  | .lsrZpx z => ⟨.lsr, (.mem (.zpx z))⟩
  | .lsrAbx a => ⟨.lsr, (.mem (.abx a))⟩
  | .rolZp0 z => ⟨.rol, (.mem (.zp0 z))⟩
  | .rolAcc => ⟨.rol, .acc⟩
  | .rolAbs a => ⟨.rol, (.mem (.abs a))⟩
  | .rolZpx z => ⟨.rol, (.mem (.zpx z))⟩
  | .rolAbx a => ⟨.rol, (.mem (.abx a))⟩
  | .rorZp0 z => ⟨.ror, (.mem (.zp0 z))⟩
  | .rorAcc => ⟨.ror, .acc⟩
  | .rorAbs a => ⟨.ror, (.mem (.abs a))⟩
  | .rorZpx z => ⟨.ror, (.mem (.zpx z))⟩
  | .rorAbx a => ⟨.ror, (.mem (.abx a))⟩
  | .jmpAbs a => ⟨.jmp, (.mem (.abs a))⟩
  | .jmpInd p => ⟨.jmp, (.mem (.ind p))⟩
  | .jsrAbs a => ⟨.jsr, (.mem (.abs a))⟩
  | .rts => ⟨.rts, .imp⟩
  | .bcc r => ⟨.bcc, (.rel r)⟩
  | .bcs r => ⟨.bcs, (.rel r)⟩
  | .beq r => ⟨.beq, (.rel r)⟩
  | .bne r => ⟨.bne, (.rel r)⟩
  | .bmi r => ⟨.bmi, (.rel r)⟩
  | .bpl r => ⟨.bpl, (.rel r)⟩
  | .bvc r => ⟨.bvc, (.rel r)⟩
  | .bvs r => ⟨.bvs, (.rel r)⟩
  | .clc => ⟨.clc, .imp⟩
  | .sec => ⟨.sec, .imp⟩
  | .cli => ⟨.cli, .imp⟩
  | .sei => ⟨.sei, .imp⟩
  | .cld => ⟨.cld, .imp⟩
  | .sed => ⟨.sed, .imp⟩
  | .clv => ⟨.clv, .imp⟩
  | .nop => ⟨.nop, .imp⟩
  | .brk => ⟨.brk, .imp⟩
  | .rti => ⟨.rti, .imp⟩
  | .ill02 => ⟨(.ill 0x02), .imp⟩
  | .ill03 => ⟨(.ill 0x03), .imp⟩
  | .ill04 => ⟨(.ill 0x04), .imp⟩
  | .ill07 => ⟨(.ill 0x07), .imp⟩
  | .ill0B => ⟨(.ill 0x0B), .imp⟩
  | .ill0C => ⟨(.ill 0x0C), .imp⟩
  | .ill0F => ⟨(.ill 0x0F), .imp⟩
  | .ill12 => ⟨(.ill 0x12), .imp⟩
  | .ill13 => ⟨(.ill 0x13), .imp⟩
  | .ill14 => ⟨(.ill 0x14), .imp⟩
  | .ill17 => ⟨(.ill 0x17), .imp⟩
  | .ill1A => ⟨(.ill 0x1A), .imp⟩
  | .ill1B => ⟨(.ill 0x1B), .imp⟩
  | .ill1C => ⟨(.ill 0x1C), .imp⟩
  | .ill1F => ⟨(.ill 0x1F), .imp⟩
  | .ill22 => ⟨(.ill 0x22), .imp⟩
  | .ill23 => ⟨(.ill 0x23), .imp⟩
  | .ill27 => ⟨(.ill 0x27), .imp⟩
  | .ill2B => ⟨(.ill 0x2B), .imp⟩
  | .ill2F => ⟨(.ill 0x2F), .imp⟩
  | .ill32 => ⟨(.ill 0x32), .imp⟩
  | .ill33 => ⟨(.ill 0x33), .imp⟩
  | .ill34 => ⟨(.ill 0x34), .imp⟩
  | .ill37 => ⟨(.ill 0x37), .imp⟩
  | .ill3A => ⟨(.ill 0x3A), .imp⟩
  | .ill3B => ⟨(.ill 0x3B), .imp⟩
  | .ill3C => ⟨(.ill 0x3C), .imp⟩
  | .ill3F => ⟨(.ill 0x3F), .imp⟩
  | .ill42 => ⟨(.ill 0x42), .imp⟩
  | .ill43 => ⟨(.ill 0x43), .imp⟩
  | .ill44 => ⟨(.ill 0x44), .imp⟩
  | .ill47 => ⟨(.ill 0x47), .imp⟩
  | .ill4B => ⟨(.ill 0x4B), .imp⟩
  | .ill4F => ⟨(.ill 0x4F), .imp⟩
  | .ill52 => ⟨(.ill 0x52), .imp⟩
  | .ill53 => ⟨(.ill 0x53), .imp⟩
  | .ill54 => ⟨(.ill 0x54), .imp⟩
  | .ill57 => ⟨(.ill 0x57), .imp⟩
  | .ill5A => ⟨(.ill 0x5A), .imp⟩
  | .ill5B => ⟨(.ill 0x5B), .imp⟩
  | .ill5C => ⟨(.ill 0x5C), .imp⟩
  | .ill5F => ⟨(.ill 0x5F), .imp⟩
  | .ill62 => ⟨(.ill 0x62), .imp⟩
  | .ill63 => ⟨(.ill 0x63), .imp⟩
  | .ill64 => ⟨(.ill 0x64), .imp⟩
  | .ill67 => ⟨(.ill 0x67), .imp⟩
  | .ill6B => ⟨(.ill 0x6B), .imp⟩
  | .ill6F => ⟨(.ill 0x6F), .imp⟩
  | .ill72 => ⟨(.ill 0x72), .imp⟩
  | .ill73 => ⟨(.ill 0x73), .imp⟩
  | .ill74 => ⟨(.ill 0x74), .imp⟩
  | .ill77 => ⟨(.ill 0x77), .imp⟩
  | .ill7A => ⟨(.ill 0x7A), .imp⟩
  | .ill7B => ⟨(.ill 0x7B), .imp⟩
  | .ill7C => ⟨(.ill 0x7C), .imp⟩
  | .ill7F => ⟨(.ill 0x7F), .imp⟩
  | .ill80 => ⟨(.ill 0x80), .imp⟩
  | .ill82 => ⟨(.ill 0x82), .imp⟩
  | .ill83 => ⟨(.ill 0x83), .imp⟩
  | .ill87 => ⟨(.ill 0x87), .imp⟩
  | .ill89 => ⟨(.ill 0x89), .imp⟩
  | .ill8B => ⟨(.ill 0x8B), .imp⟩
  | .ill8F => ⟨(.ill 0x8F), .imp⟩
  | .ill92 => ⟨(.ill 0x92), .imp⟩
  | .ill93 => ⟨(.ill 0x93), .imp⟩
  | .ill97 => ⟨(.ill 0x97), .imp⟩
  | .ill9B => ⟨(.ill 0x9B), .imp⟩
  | .ill9C => ⟨(.ill 0x9C), .imp⟩
  | .ill9E => ⟨(.ill 0x9E), .imp⟩
  | .ill9F => ⟨(.ill 0x9F), .imp⟩
  | .illA3 => ⟨(.ill 0xA3), .imp⟩
  | .illA7 => ⟨(.ill 0xA7), .imp⟩
  | .illAB => ⟨(.ill 0xAB), .imp⟩
  | .illAF => ⟨(.ill 0xAF), .imp⟩
  | .illB2 => ⟨(.ill 0xB2), .imp⟩
  | .illB3 => ⟨(.ill 0xB3), .imp⟩
  | .illB7 => ⟨(.ill 0xB7), .imp⟩
  | .illBB => ⟨(.ill 0xBB), .imp⟩
  | .illBF => ⟨(.ill 0xBF), .imp⟩
  | .illC2 => ⟨(.ill 0xC2), .imp⟩
  | .illC3 => ⟨(.ill 0xC3), .imp⟩
  | .illC7 => ⟨(.ill 0xC7), .imp⟩
  | .illCB => ⟨(.ill 0xCB), .imp⟩
  | .illCF => ⟨(.ill 0xCF), .imp⟩
  | .illD2 => ⟨(.ill 0xD2), .imp⟩
  | .illD3 => ⟨(.ill 0xD3), .imp⟩
  | .illD4 => ⟨(.ill 0xD4), .imp⟩
  | .illD7 => ⟨(.ill 0xD7), .imp⟩
  | .illDA => ⟨(.ill 0xDA), .imp⟩
  | .illDB => ⟨(.ill 0xDB), .imp⟩
  | .illDC => ⟨(.ill 0xDC), .imp⟩
  | .illDF => ⟨(.ill 0xDF), .imp⟩
  | .illE2 => ⟨(.ill 0xE2), .imp⟩
  | .illE3 => ⟨(.ill 0xE3), .imp⟩
  | .illE7 => ⟨(.ill 0xE7), .imp⟩
  | .illEB => ⟨(.ill 0xEB), .imp⟩
  | .illEF => ⟨(.ill 0xEF), .imp⟩
  | .illF2 => ⟨(.ill 0xF2), .imp⟩
  | .illF3 => ⟨(.ill 0xF3), .imp⟩
  | .illF4 => ⟨(.ill 0xF4), .imp⟩
  | .illF7 => ⟨(.ill 0xF7), .imp⟩
  | .illFA => ⟨(.ill 0xFA), .imp⟩
  | .illFB => ⟨(.ill 0xFB), .imp⟩
  | .illFC => ⟨(.ill 0xFC), .imp⟩
  | .illFF => ⟨(.ill 0xFF), .imp⟩

end Sys2Proof
end

