-- ==== Sys2Proof/Config.lean ====
section
/-! DEFINITION. What the spec leaves to whoever builds or drives the machine (00_scope.md R6) and what no state holds:
the default of `ILLEGAL_CYCLES`, `APU_MIX` as a function the host's readings take, the positive reals of `SAMPLE_RATIO`,
and `PALETTE_RGBA`, which has no value at all. The parameters that steer the machine are arguments of it: the fields of `Machine.Params`, which every state
carries, and the contents of a state's memories (`Machine.State.launch`). -/

namespace Sys2Proof

/-- The 105 illegal opcode bytes in seven rows of fifteen, each with the DEFAULT of its cost as the opcode matrix and R112
print it (30_encoding.md R110, R112, D7). The cost an illegal opcode takes is `ILLEGAL_CYCLES`, an argument of the machine
(log 5). -/
def illegalRows : Vector (Vector (Byte × Nat) 15) 7 := #v[
  #v[(0x02, 2), (0x03, 8), (0x04, 3), (0x07, 5), (0x0B, 2), (0x0C, 4), (0x0F, 6), (0x12, 2), (0x13, 8), (0x14, 4), (0x17, 6), (0x1A, 2), (0x1B, 7), (0x1C, 4), (0x1F, 7)],
  #v[(0x22, 2), (0x23, 8), (0x27, 5), (0x2B, 2), (0x2F, 6), (0x32, 2), (0x33, 8), (0x34, 4), (0x37, 6), (0x3A, 2), (0x3B, 7), (0x3C, 4), (0x3F, 7), (0x42, 2), (0x43, 8)],
  #v[(0x44, 3), (0x47, 5), (0x4B, 2), (0x4F, 6), (0x52, 2), (0x53, 8), (0x54, 4), (0x57, 6), (0x5A, 2), (0x5B, 7), (0x5C, 4), (0x5F, 7), (0x62, 2), (0x63, 8), (0x64, 3)],
  #v[(0x67, 5), (0x6B, 2), (0x6F, 6), (0x72, 2), (0x73, 8), (0x74, 4), (0x77, 6), (0x7A, 2), (0x7B, 7), (0x7C, 4), (0x7F, 7), (0x80, 2), (0x82, 2), (0x83, 6), (0x87, 3)],
  #v[(0x89, 2), (0x8B, 2), (0x8F, 4), (0x92, 2), (0x93, 6), (0x97, 4), (0x9B, 5), (0x9C, 5), (0x9E, 5), (0x9F, 5), (0xA3, 6), (0xA7, 3), (0xAB, 2), (0xAF, 4), (0xB2, 2)],
  #v[(0xB3, 5), (0xB7, 4), (0xBB, 4), (0xBF, 4), (0xC2, 2), (0xC3, 8), (0xC7, 5), (0xCB, 2), (0xCF, 6), (0xD2, 2), (0xD3, 8), (0xD4, 4), (0xD7, 6), (0xDA, 2), (0xDB, 7)],
  #v[(0xDC, 4), (0xDF, 7), (0xE2, 2), (0xE3, 8), (0xE7, 5), (0xEB, 2), (0xEF, 6), (0xF2, 2), (0xF3, 8), (0xF4, 4), (0xF7, 6), (0xFA, 2), (0xFB, 7), (0xFC, 4), (0xFF, 7)]]

/-- The same as one list. -/
def illegalOpcodes : List (Byte × Nat) := illegalRows.toList.flatMap (·.toList)

/-- `ILLEGAL_CYCLES`: one cost of 1 to 8 for each of the 105 illegal opcode bytes, laid out as `illegalRows` (R6). An entry
holds the cost less 1. -/
abbrev IllegalCycles := Vector (Vector (Fin 8) 15) 7

/-- Apply `f` to each entry, by the entries' list, so that the result can be evaluated. -/
def mapEntries {α β : Type} {n : Nat} (f : α → β) (v : Vector α n) : Vector β n := ⟨(v.toList.map f).toArray, by simp⟩

/-- The default of `ILLEGAL_CYCLES` (R112; DESIGN CHOICE, log 5). -/
def illegalCyclesDefault : IllegalCycles := mapEntries (mapEntries fun r => Fin.ofNat 8 (r.2 - 1)) illegalRows

/-- `APU_MIX`: a function of the two pulse outputs and the noise output to the reals (R6, 63_apu.md R470). -/
abbrev ApuMix := BitVec 4 → BitVec 4 → BitVec 4 → ℝ

/-- The default of `APU_MIX`, `0.00752 * (p1 + p2) + 0.00494 * n` (R470; DESIGN CHOICE, log 7). -/
def apuMixDefault (p1 p2 n : BitVec 4) : ℚ := 752 / 100000 * (p1.toNat + p2.toNat) + 494 / 100000 * n.toNat

/-- A positive real number that the host sets, as plain data: a whole number, or the real that the host calls number `k`
(61_bus.md R307; log 6). -/
inductive HostReal where
  | whole (n : ℕ+)
  | named (k : Nat)
deriving DecidableEq, Repr

/-- A sum of host reals as plain data: a whole number and a whole multiple of each named real, listed by rising number
with no multiple 0 (log 6). -/
structure AudioTime where
  whole : Int
  named : List (Nat × Int)
deriving DecidableEq, Repr

/-- The real number that a sum is when the named reals are `v`. -/
def AudioTime.value (v : Nat → ℝ) (t : AudioTime) : ℝ :=
  t.whole + (t.named.map fun x => (x.2 : ℝ) * v x.1).sum

/-- Positive reals for the host's names, and which sums of them are at least 0: a fact of the reals, which decides it for
every such choice of reals. -/
structure HostReals where
  val    : Nat → ℝ
  pos    : ∀ k, 0 < val k
  nonneg : AudioTime → Bool
  spec   : ∀ t, nonneg t = true ↔ 0 ≤ t.value val

/-- The real numbers the host's names stand for: uninterpreted, so they may be any positive reals (R307; log 6). -/
opaque Config.hostReals : Option HostReals

/-- The named real `k`. -/
def namedReal (k : Nat) : ℝ :=
  match Config.hostReals with
  | some o => o.val k
  | none => 1

/-- The real number a host real is. -/
def HostReal.value : HostReal → ℝ
  | .whole n => (n : Nat)
  | .named k => namedReal k

/-- `PALETTE_RGBA`, the 64-entry hardware palette: uninterpreted (62_ppu.md R395, D38; log 9). -/
opaque Config.paletteRgba : BitVec 6 → BitVec 32

end Sys2Proof
end

