-- ==== Sys2Proof/WellFormed.lean ====
section
/-! DEFINITION. Which lines of assembly are instructions (30_encoding.md R111, R112), and the range check of a
branch target (R118). An `Instr` is a row of the opcode table with operand bytes, every value of which is legal
(R103), so `Instr.wellFormed` holds of every instruction; the checks that can fail are those on a `Line` and on a
branch target. -/

namespace Sys2Proof

/-- The formats each mnemonic has (R111); an illegal opcode has format `IMP` (R112). -/
def Mnem.formats : Mnem → List Format
  | .lda => [.izx, .zp0, .imm, .abs, .izy, .zpx, .aby, .abx]
  | .ldx => [.imm, .zp0, .abs, .zpy, .aby]
  | .ldy => [.imm, .zp0, .abs, .zpx, .abx]
  | .sta => [.izx, .zp0, .abs, .izy, .zpx, .aby, .abx]
  | .stx => [.zp0, .abs, .zpy]
  | .sty => [.zp0, .abs, .zpx]
  | .tax => [.imp]
  | .tay => [.imp]
  | .txa => [.imp]
  | .tya => [.imp]
  | .tsx => [.imp]
  | .txs => [.imp]
  | .pha => [.imp]
  | .php => [.imp]
  | .pla => [.imp]
  | .plp => [.imp]
  | .and => [.izx, .zp0, .imm, .abs, .izy, .zpx, .aby, .abx]
  | .ora => [.izx, .zp0, .imm, .abs, .izy, .zpx, .aby, .abx]
  | .eor => [.izx, .zp0, .imm, .abs, .izy, .zpx, .aby, .abx]
  | .bit => [.zp0, .abs]
  | .adc => [.izx, .zp0, .imm, .abs, .izy, .zpx, .aby, .abx]
  | .sbc => [.izx, .zp0, .imm, .abs, .izy, .zpx, .aby, .abx]
  | .cmp => [.izx, .zp0, .imm, .abs, .izy, .zpx, .aby, .abx]
  | .cpx => [.imm, .zp0, .abs]
  | .cpy => [.imm, .zp0, .abs]
  | .inc => [.zp0, .abs, .zpx, .abx]
  | .dec => [.zp0, .abs, .zpx, .abx]
  | .inx => [.imp]
  | .iny => [.imp]
  | .dex => [.imp]
  | .dey => [.imp]
  | .asl => [.zp0, .acc, .abs, .zpx, .abx]
  | .lsr => [.zp0, .acc, .abs, .zpx, .abx]
  | .rol => [.zp0, .acc, .abs, .zpx, .abx]
  | .ror => [.zp0, .acc, .abs, .zpx, .abx]
  | .jmp => [.abs, .ind]
  | .jsr => [.abs]
  | .rts => [.imp]
  | .bcc => [.rel]
  | .bcs => [.rel]
  | .beq => [.rel]
  | .bne => [.rel]
  | .bmi => [.rel]
  | .bpl => [.rel]
  | .bvc => [.rel]
  | .bvs => [.rel]
  | .clc => [.imp]
  | .sec => [.imp]
  | .cli => [.imp]
  | .sei => [.imp]
  | .cld => [.imp]
  | .sed => [.imp]
  | .clv => [.imp]
  | .nop => [.imp]
  | .brk => [.imp]
  | .rti => [.imp]
  | .ill op => if illegalOpcodes.any (·.1 == op) then [.imp] else []

/-- The instruction set has this mnemonic in this format: no immediate store (R153), `ZPY` only with `LDX` and
`STX` (R135), `IND` only with `JMP` (R140), `REL` only with the branches (R141), and so on. -/
def Line.wellFormed (l : Line) : Bool := l.mnem.formats.contains l.mode.format

/-- Every operand value is legal (R103), so what is checked is the row. -/
def Instr.wellFormed (i : Instr) : Bool := i.line.wellFormed

/-- The offset byte of a branch at `at_` to `target`: `target - (at_ + 2)` as a signed 8-bit number, rejected
outside -128..+127 (R118). -/
def branchByte (at_ target : Addr) : Option Byte :=
  let off := (target - (at_ + 2)).toInt
  if -128 ≤ off ∧ off ≤ 127 then some (BitVec.ofInt 8 off) else none

end Sys2Proof
end

