-- ==== Sys2Proof/Decode.lean ====
section
/-! DEFINITION. The decoder, from the opcode matrix of 30_encoding.md R110, and after it the encoder, from the
table by mnemonic of R111. The two tables are written separately, so that their agreement is a fact about them. -/

namespace Sys2Proof

/-- Two bytes as a 16-bit value, `hi ++ lo` (R7, R72). -/
def joinBytes (hi lo : Byte) : Addr := hi ++ lo

/-- How a row builds its instruction from its operand bytes. -/
inductive Maker where
  | none (i : Instr)
  | byte (f : Byte → Instr)
  | word (f : Addr → Instr)

/-- Number of operand bytes a row takes. -/
def Maker.operands : Maker → Nat
  | .none _ => 0
  | .byte _ => 1
  | .word _ => 2

/-- One cell of the opcode matrix: `mnemonic format base-cycles` (R110). Of an illegal opcode the matrix prints the
default of its cost; `ILLEGAL_CYCLES` gives the cost it takes (R112; log 5). -/
structure OpEntry where
  mnem   : Mnem
  fmt    : Format
  cycles : Nat
  make   : Maker

/-- Row `0x` of the opcode matrix (R110). -/
def opRow0 : Vector OpEntry 16 := #v[
  ⟨.brk, .imp, 7, .none .brk⟩,
  ⟨.ora, .izx, 6, .byte .oraIzx⟩,
  ⟨.ill 0x02, .imp, 2, .none .ill02⟩,
  ⟨.ill 0x03, .imp, 8, .none .ill03⟩,
  ⟨.ill 0x04, .imp, 3, .none .ill04⟩,
  ⟨.ora, .zp0, 3, .byte .oraZp0⟩,
  ⟨.asl, .zp0, 5, .byte .aslZp0⟩,
  ⟨.ill 0x07, .imp, 5, .none .ill07⟩,
  ⟨.php, .imp, 3, .none .php⟩,
  ⟨.ora, .imm, 2, .byte .oraImm⟩,
  ⟨.asl, .acc, 2, .none .aslAcc⟩,
  ⟨.ill 0x0B, .imp, 2, .none .ill0B⟩,
  ⟨.ill 0x0C, .imp, 4, .none .ill0C⟩,
  ⟨.ora, .abs, 4, .word .oraAbs⟩,
  ⟨.asl, .abs, 6, .word .aslAbs⟩,
  ⟨.ill 0x0F, .imp, 6, .none .ill0F⟩]

/-- Row `1x` of the opcode matrix (R110). -/
def opRow1 : Vector OpEntry 16 := #v[
  ⟨.bpl, .rel, 2, .byte .bpl⟩,
  ⟨.ora, .izy, 5, .byte .oraIzy⟩,
  ⟨.ill 0x12, .imp, 2, .none .ill12⟩,
  ⟨.ill 0x13, .imp, 8, .none .ill13⟩,
  ⟨.ill 0x14, .imp, 4, .none .ill14⟩,
  ⟨.ora, .zpx, 4, .byte .oraZpx⟩,
  ⟨.asl, .zpx, 6, .byte .aslZpx⟩,
  ⟨.ill 0x17, .imp, 6, .none .ill17⟩,
  ⟨.clc, .imp, 2, .none .clc⟩,
  ⟨.ora, .aby, 4, .word .oraAby⟩,
  ⟨.ill 0x1A, .imp, 2, .none .ill1A⟩,
  ⟨.ill 0x1B, .imp, 7, .none .ill1B⟩,
  ⟨.ill 0x1C, .imp, 4, .none .ill1C⟩,
  ⟨.ora, .abx, 4, .word .oraAbx⟩,
  ⟨.asl, .abx, 7, .word .aslAbx⟩,
  ⟨.ill 0x1F, .imp, 7, .none .ill1F⟩]

/-- Row `2x` of the opcode matrix (R110). -/
def opRow2 : Vector OpEntry 16 := #v[
  ⟨.jsr, .abs, 6, .word .jsrAbs⟩,
  ⟨.and, .izx, 6, .byte .andIzx⟩,
  ⟨.ill 0x22, .imp, 2, .none .ill22⟩,
  ⟨.ill 0x23, .imp, 8, .none .ill23⟩,
  ⟨.bit, .zp0, 3, .byte .bitZp0⟩,
  ⟨.and, .zp0, 3, .byte .andZp0⟩,
  ⟨.rol, .zp0, 5, .byte .rolZp0⟩,
  ⟨.ill 0x27, .imp, 5, .none .ill27⟩,
  ⟨.plp, .imp, 4, .none .plp⟩,
  ⟨.and, .imm, 2, .byte .andImm⟩,
  ⟨.rol, .acc, 2, .none .rolAcc⟩,
  ⟨.ill 0x2B, .imp, 2, .none .ill2B⟩,
  ⟨.bit, .abs, 4, .word .bitAbs⟩,
  ⟨.and, .abs, 4, .word .andAbs⟩,
  ⟨.rol, .abs, 6, .word .rolAbs⟩,
  ⟨.ill 0x2F, .imp, 6, .none .ill2F⟩]

/-- Row `3x` of the opcode matrix (R110). -/
def opRow3 : Vector OpEntry 16 := #v[
  ⟨.bmi, .rel, 2, .byte .bmi⟩,
  ⟨.and, .izy, 5, .byte .andIzy⟩,
  ⟨.ill 0x32, .imp, 2, .none .ill32⟩,
  ⟨.ill 0x33, .imp, 8, .none .ill33⟩,
  ⟨.ill 0x34, .imp, 4, .none .ill34⟩,
  ⟨.and, .zpx, 4, .byte .andZpx⟩,
  ⟨.rol, .zpx, 6, .byte .rolZpx⟩,
  ⟨.ill 0x37, .imp, 6, .none .ill37⟩,
  ⟨.sec, .imp, 2, .none .sec⟩,
  ⟨.and, .aby, 4, .word .andAby⟩,
  ⟨.ill 0x3A, .imp, 2, .none .ill3A⟩,
  ⟨.ill 0x3B, .imp, 7, .none .ill3B⟩,
  ⟨.ill 0x3C, .imp, 4, .none .ill3C⟩,
  ⟨.and, .abx, 4, .word .andAbx⟩,
  ⟨.rol, .abx, 7, .word .rolAbx⟩,
  ⟨.ill 0x3F, .imp, 7, .none .ill3F⟩]

/-- Row `4x` of the opcode matrix (R110). -/
def opRow4 : Vector OpEntry 16 := #v[
  ⟨.rti, .imp, 6, .none .rti⟩,
  ⟨.eor, .izx, 6, .byte .eorIzx⟩,
  ⟨.ill 0x42, .imp, 2, .none .ill42⟩,
  ⟨.ill 0x43, .imp, 8, .none .ill43⟩,
  ⟨.ill 0x44, .imp, 3, .none .ill44⟩,
  ⟨.eor, .zp0, 3, .byte .eorZp0⟩,
  ⟨.lsr, .zp0, 5, .byte .lsrZp0⟩,
  ⟨.ill 0x47, .imp, 5, .none .ill47⟩,
  ⟨.pha, .imp, 3, .none .pha⟩,
  ⟨.eor, .imm, 2, .byte .eorImm⟩,
  ⟨.lsr, .acc, 2, .none .lsrAcc⟩,
  ⟨.ill 0x4B, .imp, 2, .none .ill4B⟩,
  ⟨.jmp, .abs, 3, .word .jmpAbs⟩,
  ⟨.eor, .abs, 4, .word .eorAbs⟩,
  ⟨.lsr, .abs, 6, .word .lsrAbs⟩,
  ⟨.ill 0x4F, .imp, 6, .none .ill4F⟩]

/-- Row `5x` of the opcode matrix (R110). -/
def opRow5 : Vector OpEntry 16 := #v[
  ⟨.bvc, .rel, 2, .byte .bvc⟩,
  ⟨.eor, .izy, 5, .byte .eorIzy⟩,
  ⟨.ill 0x52, .imp, 2, .none .ill52⟩,
  ⟨.ill 0x53, .imp, 8, .none .ill53⟩,
  ⟨.ill 0x54, .imp, 4, .none .ill54⟩,
  ⟨.eor, .zpx, 4, .byte .eorZpx⟩,
  ⟨.lsr, .zpx, 6, .byte .lsrZpx⟩,
  ⟨.ill 0x57, .imp, 6, .none .ill57⟩,
  ⟨.cli, .imp, 2, .none .cli⟩,
  ⟨.eor, .aby, 4, .word .eorAby⟩,
  ⟨.ill 0x5A, .imp, 2, .none .ill5A⟩,
  ⟨.ill 0x5B, .imp, 7, .none .ill5B⟩,
  ⟨.ill 0x5C, .imp, 4, .none .ill5C⟩,
  ⟨.eor, .abx, 4, .word .eorAbx⟩,
  ⟨.lsr, .abx, 7, .word .lsrAbx⟩,
  ⟨.ill 0x5F, .imp, 7, .none .ill5F⟩]

/-- Row `6x` of the opcode matrix (R110). -/
def opRow6 : Vector OpEntry 16 := #v[
  ⟨.rts, .imp, 6, .none .rts⟩,
  ⟨.adc, .izx, 6, .byte .adcIzx⟩,
  ⟨.ill 0x62, .imp, 2, .none .ill62⟩,
  ⟨.ill 0x63, .imp, 8, .none .ill63⟩,
  ⟨.ill 0x64, .imp, 3, .none .ill64⟩,
  ⟨.adc, .zp0, 3, .byte .adcZp0⟩,
  ⟨.ror, .zp0, 5, .byte .rorZp0⟩,
  ⟨.ill 0x67, .imp, 5, .none .ill67⟩,
  ⟨.pla, .imp, 4, .none .pla⟩,
  ⟨.adc, .imm, 2, .byte .adcImm⟩,
  ⟨.ror, .acc, 2, .none .rorAcc⟩,
  ⟨.ill 0x6B, .imp, 2, .none .ill6B⟩,
  ⟨.jmp, .ind, 5, .word .jmpInd⟩,
  ⟨.adc, .abs, 4, .word .adcAbs⟩,
  ⟨.ror, .abs, 6, .word .rorAbs⟩,
  ⟨.ill 0x6F, .imp, 6, .none .ill6F⟩]

/-- Row `7x` of the opcode matrix (R110). -/
def opRow7 : Vector OpEntry 16 := #v[
  ⟨.bvs, .rel, 2, .byte .bvs⟩,
  ⟨.adc, .izy, 5, .byte .adcIzy⟩,
  ⟨.ill 0x72, .imp, 2, .none .ill72⟩,
  ⟨.ill 0x73, .imp, 8, .none .ill73⟩,
  ⟨.ill 0x74, .imp, 4, .none .ill74⟩,
  ⟨.adc, .zpx, 4, .byte .adcZpx⟩,
  ⟨.ror, .zpx, 6, .byte .rorZpx⟩,
  ⟨.ill 0x77, .imp, 6, .none .ill77⟩,
  ⟨.sei, .imp, 2, .none .sei⟩,
  ⟨.adc, .aby, 4, .word .adcAby⟩,
  ⟨.ill 0x7A, .imp, 2, .none .ill7A⟩,
  ⟨.ill 0x7B, .imp, 7, .none .ill7B⟩,
  ⟨.ill 0x7C, .imp, 4, .none .ill7C⟩,
  ⟨.adc, .abx, 4, .word .adcAbx⟩,
  ⟨.ror, .abx, 7, .word .rorAbx⟩,
  ⟨.ill 0x7F, .imp, 7, .none .ill7F⟩]

/-- Row `8x` of the opcode matrix (R110). -/
def opRow8 : Vector OpEntry 16 := #v[
  ⟨.ill 0x80, .imp, 2, .none .ill80⟩,
  ⟨.sta, .izx, 6, .byte .staIzx⟩,
  ⟨.ill 0x82, .imp, 2, .none .ill82⟩,
  ⟨.ill 0x83, .imp, 6, .none .ill83⟩,
  ⟨.sty, .zp0, 3, .byte .styZp0⟩,
  ⟨.sta, .zp0, 3, .byte .staZp0⟩,
  ⟨.stx, .zp0, 3, .byte .stxZp0⟩,
  ⟨.ill 0x87, .imp, 3, .none .ill87⟩,
  ⟨.dey, .imp, 2, .none .dey⟩,
  ⟨.ill 0x89, .imp, 2, .none .ill89⟩,
  ⟨.txa, .imp, 2, .none .txa⟩,
  ⟨.ill 0x8B, .imp, 2, .none .ill8B⟩,
  ⟨.sty, .abs, 4, .word .styAbs⟩,
  ⟨.sta, .abs, 4, .word .staAbs⟩,
  ⟨.stx, .abs, 4, .word .stxAbs⟩,
  ⟨.ill 0x8F, .imp, 4, .none .ill8F⟩]

/-- Row `9x` of the opcode matrix (R110). -/
def opRow9 : Vector OpEntry 16 := #v[
  ⟨.bcc, .rel, 2, .byte .bcc⟩,
  ⟨.sta, .izy, 6, .byte .staIzy⟩,
  ⟨.ill 0x92, .imp, 2, .none .ill92⟩,
  ⟨.ill 0x93, .imp, 6, .none .ill93⟩,
  ⟨.sty, .zpx, 4, .byte .styZpx⟩,
  ⟨.sta, .zpx, 4, .byte .staZpx⟩,
  ⟨.stx, .zpy, 4, .byte .stxZpy⟩,
  ⟨.ill 0x97, .imp, 4, .none .ill97⟩,
  ⟨.tya, .imp, 2, .none .tya⟩,
  ⟨.sta, .aby, 5, .word .staAby⟩,
  ⟨.txs, .imp, 2, .none .txs⟩,
  ⟨.ill 0x9B, .imp, 5, .none .ill9B⟩,
  ⟨.ill 0x9C, .imp, 5, .none .ill9C⟩,
  ⟨.sta, .abx, 5, .word .staAbx⟩,
  ⟨.ill 0x9E, .imp, 5, .none .ill9E⟩,
  ⟨.ill 0x9F, .imp, 5, .none .ill9F⟩]

/-- Row `Ax` of the opcode matrix (R110). -/
def opRowA : Vector OpEntry 16 := #v[
  ⟨.ldy, .imm, 2, .byte .ldyImm⟩,
  ⟨.lda, .izx, 6, .byte .ldaIzx⟩,
  ⟨.ldx, .imm, 2, .byte .ldxImm⟩,
  ⟨.ill 0xA3, .imp, 6, .none .illA3⟩,
  ⟨.ldy, .zp0, 3, .byte .ldyZp0⟩,
  ⟨.lda, .zp0, 3, .byte .ldaZp0⟩,
  ⟨.ldx, .zp0, 3, .byte .ldxZp0⟩,
  ⟨.ill 0xA7, .imp, 3, .none .illA7⟩,
  ⟨.tay, .imp, 2, .none .tay⟩,
  ⟨.lda, .imm, 2, .byte .ldaImm⟩,
  ⟨.tax, .imp, 2, .none .tax⟩,
  ⟨.ill 0xAB, .imp, 2, .none .illAB⟩,
  ⟨.ldy, .abs, 4, .word .ldyAbs⟩,
  ⟨.lda, .abs, 4, .word .ldaAbs⟩,
  ⟨.ldx, .abs, 4, .word .ldxAbs⟩,
  ⟨.ill 0xAF, .imp, 4, .none .illAF⟩]

/-- Row `Bx` of the opcode matrix (R110). -/
def opRowB : Vector OpEntry 16 := #v[
  ⟨.bcs, .rel, 2, .byte .bcs⟩,
  ⟨.lda, .izy, 5, .byte .ldaIzy⟩,
  ⟨.ill 0xB2, .imp, 2, .none .illB2⟩,
  ⟨.ill 0xB3, .imp, 5, .none .illB3⟩,
  ⟨.ldy, .zpx, 4, .byte .ldyZpx⟩,
  ⟨.lda, .zpx, 4, .byte .ldaZpx⟩,
  ⟨.ldx, .zpy, 4, .byte .ldxZpy⟩,
  ⟨.ill 0xB7, .imp, 4, .none .illB7⟩,
  ⟨.clv, .imp, 2, .none .clv⟩,
  ⟨.lda, .aby, 4, .word .ldaAby⟩,
  ⟨.tsx, .imp, 2, .none .tsx⟩,
  ⟨.ill 0xBB, .imp, 4, .none .illBB⟩,
  ⟨.ldy, .abx, 4, .word .ldyAbx⟩,
  ⟨.lda, .abx, 4, .word .ldaAbx⟩,
  ⟨.ldx, .aby, 4, .word .ldxAby⟩,
  ⟨.ill 0xBF, .imp, 4, .none .illBF⟩]

/-- Row `Cx` of the opcode matrix (R110). -/
def opRowC : Vector OpEntry 16 := #v[
  ⟨.cpy, .imm, 2, .byte .cpyImm⟩,
  ⟨.cmp, .izx, 6, .byte .cmpIzx⟩,
  ⟨.ill 0xC2, .imp, 2, .none .illC2⟩,
  ⟨.ill 0xC3, .imp, 8, .none .illC3⟩,
  ⟨.cpy, .zp0, 3, .byte .cpyZp0⟩,
  ⟨.cmp, .zp0, 3, .byte .cmpZp0⟩,
  ⟨.dec, .zp0, 5, .byte .decZp0⟩,
  ⟨.ill 0xC7, .imp, 5, .none .illC7⟩,
  ⟨.iny, .imp, 2, .none .iny⟩,
  ⟨.cmp, .imm, 2, .byte .cmpImm⟩,
  ⟨.dex, .imp, 2, .none .dex⟩,
  ⟨.ill 0xCB, .imp, 2, .none .illCB⟩,
  ⟨.cpy, .abs, 4, .word .cpyAbs⟩,
  ⟨.cmp, .abs, 4, .word .cmpAbs⟩,
  ⟨.dec, .abs, 6, .word .decAbs⟩,
  ⟨.ill 0xCF, .imp, 6, .none .illCF⟩]

/-- Row `Dx` of the opcode matrix (R110). -/
def opRowD : Vector OpEntry 16 := #v[
  ⟨.bne, .rel, 2, .byte .bne⟩,
  ⟨.cmp, .izy, 5, .byte .cmpIzy⟩,
  ⟨.ill 0xD2, .imp, 2, .none .illD2⟩,
  ⟨.ill 0xD3, .imp, 8, .none .illD3⟩,
  ⟨.ill 0xD4, .imp, 4, .none .illD4⟩,
  ⟨.cmp, .zpx, 4, .byte .cmpZpx⟩,
  ⟨.dec, .zpx, 6, .byte .decZpx⟩,
  ⟨.ill 0xD7, .imp, 6, .none .illD7⟩,
  ⟨.cld, .imp, 2, .none .cld⟩,
  ⟨.cmp, .aby, 4, .word .cmpAby⟩,
  ⟨.ill 0xDA, .imp, 2, .none .illDA⟩,
  ⟨.ill 0xDB, .imp, 7, .none .illDB⟩,
  ⟨.ill 0xDC, .imp, 4, .none .illDC⟩,
  ⟨.cmp, .abx, 4, .word .cmpAbx⟩,
  ⟨.dec, .abx, 7, .word .decAbx⟩,
  ⟨.ill 0xDF, .imp, 7, .none .illDF⟩]

/-- Row `Ex` of the opcode matrix (R110). -/
def opRowE : Vector OpEntry 16 := #v[
  ⟨.cpx, .imm, 2, .byte .cpxImm⟩,
  ⟨.sbc, .izx, 6, .byte .sbcIzx⟩,
  ⟨.ill 0xE2, .imp, 2, .none .illE2⟩,
  ⟨.ill 0xE3, .imp, 8, .none .illE3⟩,
  ⟨.cpx, .zp0, 3, .byte .cpxZp0⟩,
  ⟨.sbc, .zp0, 3, .byte .sbcZp0⟩,
  ⟨.inc, .zp0, 5, .byte .incZp0⟩,
  ⟨.ill 0xE7, .imp, 5, .none .illE7⟩,
  ⟨.inx, .imp, 2, .none .inx⟩,
  ⟨.sbc, .imm, 2, .byte .sbcImm⟩,
  ⟨.nop, .imp, 2, .none .nop⟩,
  ⟨.ill 0xEB, .imp, 2, .none .illEB⟩,
  ⟨.cpx, .abs, 4, .word .cpxAbs⟩,
  ⟨.sbc, .abs, 4, .word .sbcAbs⟩,
  ⟨.inc, .abs, 6, .word .incAbs⟩,
  ⟨.ill 0xEF, .imp, 6, .none .illEF⟩]

/-- Row `Fx` of the opcode matrix (R110). -/
def opRowF : Vector OpEntry 16 := #v[
  ⟨.beq, .rel, 2, .byte .beq⟩,
  ⟨.sbc, .izy, 5, .byte .sbcIzy⟩,
  ⟨.ill 0xF2, .imp, 2, .none .illF2⟩,
  ⟨.ill 0xF3, .imp, 8, .none .illF3⟩,
  ⟨.ill 0xF4, .imp, 4, .none .illF4⟩,
  ⟨.sbc, .zpx, 4, .byte .sbcZpx⟩,
  ⟨.inc, .zpx, 6, .byte .incZpx⟩,
  ⟨.ill 0xF7, .imp, 6, .none .illF7⟩,
  ⟨.sed, .imp, 2, .none .sed⟩,
  ⟨.sbc, .aby, 4, .word .sbcAby⟩,
  ⟨.ill 0xFA, .imp, 2, .none .illFA⟩,
  ⟨.ill 0xFB, .imp, 7, .none .illFB⟩,
  ⟨.ill 0xFC, .imp, 4, .none .illFC⟩,
  ⟨.sbc, .abx, 4, .word .sbcAbx⟩,
  ⟨.inc, .abx, 7, .word .incAbx⟩,
  ⟨.ill 0xFF, .imp, 7, .none .illFF⟩]

/-- The 256-entry opcode table (R110): high nibble selects the row, low nibble the column. -/
def opTable : Vector (Vector OpEntry 16) 16 := #v[
  opRow0, opRow1, opRow2, opRow3, opRow4, opRow5, opRow6, opRow7,
  opRow8, opRow9, opRowA, opRowB, opRowC, opRowD, opRowE, opRowF]

/-- The table entry of an opcode byte: all 8 bits select it (R100). -/
def opEntry (op : Byte) : OpEntry :=
  (opTable[op.toNat / 16]'(by omega))[op.toNat % 16]'(Nat.mod_lt _ (by decide))

/-- Why bytes are not an instruction. No opcode is rejected (R103): only bytes that end too early are. -/
inductive DecodeReject where
  /-- There is no opcode byte. -/
  | noOpcode
  /-- The operand bytes of this opcode are cut off. -/
  | missingOperand (op : Byte)
deriving DecidableEq, Repr

/-- Decode the instruction at the head of a list of bytes, with the bytes that follow it: total on any bytes
(R103). Operands are assembled as R102 says, low byte first. -/
def decode : List Byte → Except DecodeReject (Instr × List Byte)
  | [] => .error .noOpcode
  | op :: rest =>
    match (opEntry op).make, rest with
    | .none i, rest => .ok (i, rest)
    | .byte f, b :: rest => .ok (f b, rest)
    | .word f, lo :: hi :: rest => .ok (f (joinBytes hi lo), rest)
    | _, _ => .error (.missingOperand op)

/-- The instruction that the decoder reads from the word `w` of an opcode-table row of `nbits` bits: bit 0 is the
least significant bit of the first byte, and the bits above `nbits` are 0. -/
def decodeTableWord (nbits w : Nat) : Option Instr :=
  if nbits < 8 then none
  else
    let w := w % 2 ^ nbits
    match decode [BitVec.ofNat 8 w, BitVec.ofNat 8 (w / 256), BitVec.ofNat 8 (w / 65536)] with
    | .ok (i, _) => some i
    | .error _ => none

/-! ## The encoder -/

/-- The encodings of each mnemonic: opcode byte, format, base cycles (R111); an illegal opcode is its own byte,
with the default of its cost (R112). -/
def Mnem.encodings : Mnem → List (Byte × Format × Nat)
  | .lda => [(0xA1, .izx, 6), (0xA5, .zp0, 3), (0xA9, .imm, 2), (0xAD, .abs, 4), (0xB1, .izy, 5), (0xB5, .zpx, 4), (0xB9, .aby, 4), (0xBD, .abx, 4)]
  | .ldx => [(0xA2, .imm, 2), (0xA6, .zp0, 3), (0xAE, .abs, 4), (0xB6, .zpy, 4), (0xBE, .aby, 4)]
  | .ldy => [(0xA0, .imm, 2), (0xA4, .zp0, 3), (0xAC, .abs, 4), (0xB4, .zpx, 4), (0xBC, .abx, 4)]
  | .sta => [(0x81, .izx, 6), (0x85, .zp0, 3), (0x8D, .abs, 4), (0x91, .izy, 6), (0x95, .zpx, 4), (0x99, .aby, 5), (0x9D, .abx, 5)]
  | .stx => [(0x86, .zp0, 3), (0x8E, .abs, 4), (0x96, .zpy, 4)]
  | .sty => [(0x84, .zp0, 3), (0x8C, .abs, 4), (0x94, .zpx, 4)]
  | .tax => [(0xAA, .imp, 2)]
  | .tay => [(0xA8, .imp, 2)]
  | .txa => [(0x8A, .imp, 2)]
  | .tya => [(0x98, .imp, 2)]
  | .tsx => [(0xBA, .imp, 2)]
  | .txs => [(0x9A, .imp, 2)]
  | .pha => [(0x48, .imp, 3)]
  | .php => [(0x08, .imp, 3)]
  | .pla => [(0x68, .imp, 4)]
  | .plp => [(0x28, .imp, 4)]
  | .and => [(0x21, .izx, 6), (0x25, .zp0, 3), (0x29, .imm, 2), (0x2D, .abs, 4), (0x31, .izy, 5), (0x35, .zpx, 4), (0x39, .aby, 4), (0x3D, .abx, 4)]
  | .ora => [(0x01, .izx, 6), (0x05, .zp0, 3), (0x09, .imm, 2), (0x0D, .abs, 4), (0x11, .izy, 5), (0x15, .zpx, 4), (0x19, .aby, 4), (0x1D, .abx, 4)]
  | .eor => [(0x41, .izx, 6), (0x45, .zp0, 3), (0x49, .imm, 2), (0x4D, .abs, 4), (0x51, .izy, 5), (0x55, .zpx, 4), (0x59, .aby, 4), (0x5D, .abx, 4)]
  | .bit => [(0x24, .zp0, 3), (0x2C, .abs, 4)]
  | .adc => [(0x61, .izx, 6), (0x65, .zp0, 3), (0x69, .imm, 2), (0x6D, .abs, 4), (0x71, .izy, 5), (0x75, .zpx, 4), (0x79, .aby, 4), (0x7D, .abx, 4)]
  | .sbc => [(0xE1, .izx, 6), (0xE5, .zp0, 3), (0xE9, .imm, 2), (0xED, .abs, 4), (0xF1, .izy, 5), (0xF5, .zpx, 4), (0xF9, .aby, 4), (0xFD, .abx, 4)]
  | .cmp => [(0xC1, .izx, 6), (0xC5, .zp0, 3), (0xC9, .imm, 2), (0xCD, .abs, 4), (0xD1, .izy, 5), (0xD5, .zpx, 4), (0xD9, .aby, 4), (0xDD, .abx, 4)]
  | .cpx => [(0xE0, .imm, 2), (0xE4, .zp0, 3), (0xEC, .abs, 4)]
  | .cpy => [(0xC0, .imm, 2), (0xC4, .zp0, 3), (0xCC, .abs, 4)]
  | .inc => [(0xE6, .zp0, 5), (0xEE, .abs, 6), (0xF6, .zpx, 6), (0xFE, .abx, 7)]
  | .dec => [(0xC6, .zp0, 5), (0xCE, .abs, 6), (0xD6, .zpx, 6), (0xDE, .abx, 7)]
  | .inx => [(0xE8, .imp, 2)]
  | .iny => [(0xC8, .imp, 2)]
  | .dex => [(0xCA, .imp, 2)]
  | .dey => [(0x88, .imp, 2)]
  | .asl => [(0x06, .zp0, 5), (0x0A, .acc, 2), (0x0E, .abs, 6), (0x16, .zpx, 6), (0x1E, .abx, 7)]
  | .lsr => [(0x46, .zp0, 5), (0x4A, .acc, 2), (0x4E, .abs, 6), (0x56, .zpx, 6), (0x5E, .abx, 7)]
  | .rol => [(0x26, .zp0, 5), (0x2A, .acc, 2), (0x2E, .abs, 6), (0x36, .zpx, 6), (0x3E, .abx, 7)]
  | .ror => [(0x66, .zp0, 5), (0x6A, .acc, 2), (0x6E, .abs, 6), (0x76, .zpx, 6), (0x7E, .abx, 7)]
  | .jmp => [(0x4C, .abs, 3), (0x6C, .ind, 5)]
  | .jsr => [(0x20, .abs, 6)]
  | .rts => [(0x60, .imp, 6)]
  | .bcc => [(0x90, .rel, 2)]
  | .bcs => [(0xB0, .rel, 2)]
  | .beq => [(0xF0, .rel, 2)]
  | .bne => [(0xD0, .rel, 2)]
  | .bmi => [(0x30, .rel, 2)]
  | .bpl => [(0x10, .rel, 2)]
  | .bvc => [(0x50, .rel, 2)]
  | .bvs => [(0x70, .rel, 2)]
  | .clc => [(0x18, .imp, 2)]
  | .sec => [(0x38, .imp, 2)]
  | .cli => [(0x58, .imp, 2)]
  | .sei => [(0x78, .imp, 2)]
  | .cld => [(0xD8, .imp, 2)]
  | .sed => [(0xF8, .imp, 2)]
  | .clv => [(0xB8, .imp, 2)]
  | .nop => [(0xEA, .imp, 2)]
  | .brk => [(0x00, .imp, 7)]
  | .rti => [(0x40, .imp, 6)]
  | .ill op => (illegalOpcodes.filter (·.1 == op)).map fun r => (r.1, .imp, r.2)

/-- The opcode byte of a mnemonic in a format, if it has one. -/
def Mnem.opcode (m : Mnem) (f : Format) : Option Byte :=
  (m.encodings.find? (·.2.1 == f)).map (·.1)

/-- The operand bytes of a mode, in instruction order: the low half of a 16-bit operand first (R101, R102). -/
def Mode.operandBytes : Mode → List Byte
  | .imp | .acc => []
  | .imm v => [v]
  | .rel r => [r]
  | .mem (.zp0 z) | .mem (.zpx z) | .mem (.zpy z) | .mem (.izx z) | .mem (.izy z) => [z]
  | .mem (.abs a) | .mem (.abx a) | .mem (.aby a) | .mem (.ind a) =>
    [a.extractLsb' 0 8, a.extractLsb' 8 8]

/-- The bytes of a line of assembly (R118), if the instruction set has it. -/
def Line.assemble (l : Line) : Option (List Byte) :=
  (l.mnem.opcode l.mode.format).map (· :: l.mode.operandBytes)

/-- The bytes of an instruction. Every instruction is well formed, so the empty list is never answered. -/
def encode (i : Instr) : List Byte := i.line.assemble.getD []

/-- Length of an instruction in bytes, a function of its format alone (R100). -/
def Instr.length (i : Instr) : Nat := i.line.mode.format.length

/-- The opcode byte of an instruction (R111, R112). -/
def Instr.opcode (i : Instr) : Byte := (i.line.mnem.opcode i.line.mode.format).getD 0

/-- The base cycle count the tables print for an instruction (R111, R115; for an illegal opcode the default, R112). The
meanings and the opcode matrix state their counts themselves; that they agree is a fact about them. -/
def Instr.baseCycles (i : Instr) : Nat :=
  ((i.line.mnem.encodings.find? (·.2.1 == i.line.mode.format)).map (·.2.2)).getD 0

end Sys2Proof
end

