-- ==== Sys2Proof/Machine/AudioTime.lean ====
section
/-! DEFINITION. Exact arithmetic of the audio timing (61_bus.md R307): adding and subtracting the two real times of
`SAMPLE_RATIO`, and whether a sum is at least 0 (log 6). -/

namespace Sys2Proof

/-- Add `c` times named real `k`. -/
def addNamed (k : Nat) (c : Int) : List (Nat × Int) → List (Nat × Int)
  | [] => [(k, c)]
  | (j, d) :: l =>
    if k < j then (k, c) :: (j, d) :: l
    else if k = j then (if d + c = 0 then l else (j, d + c) :: l)
    else (j, d) :: addNamed k c l

/-- `t + c * r`. -/
def AudioTime.plus (t : AudioTime) (c : Int) : HostReal → AudioTime
  | .whole n => { t with whole := t.whole + c * (n : Nat) }
  | .named k => { t with named := addNamed k c t.named }

/-- The sum 0. -/
def AudioTime.zero : AudioTime := { whole := 0, named := [] }

/-- `0 <= t`, decided as `Config.hostReals` has it where a named real occurs. -/
def AudioTime.nonneg (t : AudioTime) : Bool :=
  match t.named with
  | [] => decide (0 ≤ t.whole)
  | l => match Config.hostReals with
    | some o => o.nonneg t
    | none => decide (0 ≤ t.whole + (l.map (·.2)).sum)

/-- The canonical form of a sum: names strictly rising, no multiple 0. -/
abbrev AudioTime.wf (t : AudioTime) : Prop := t.named.Pairwise (fun x y => x.1 < y.1) ∧ ∀ x ∈ t.named, x.2 ≠ 0

end Sys2Proof
end

