-- ==== Sys2Proof/Machine/State.lean ====
section
/-! DEFINITION. The state of NESCORE: CPU (10_state.md), bus (61_bus.md R301), picture unit (62_ppu.md R340), audio
unit (63_apu.md R420), cartridge and mapper (64_cartridge.md R480 to R530), and the state after reset
(70_reset_and_hazards.md R551). Plain data throughout. -/

namespace Sys2Proof.Machine

/-- A memory: index and byte of every byte that is not 0x00, indexes strictly rising (`Mem.wf`). What an unlisted
byte reads as, 0x00, is DESIGN CHOICE (unsafe: log 2) where the spec leaves power-on contents open. -/
abbrev Mem := List Host.Cell

/-- CPU registers (10_state.md R20, R21, R24, R26, R40). -/
structure Cpu where
  a  : Byte
  x  : Byte
  y  : Byte
  sp : Byte
  /-- Status: bits 0 to 7 are C Z I D B U V N (R26). -/
  p  : Byte
  pc : Addr
  /-- The cycles-remaining counter (R40). -/
  cycles : Nat
deriving DecidableEq, Repr

/-- The channel outputs that `GetOutputSample()` mixes, 0 to 15 each: pulse 1, pulse 2, noise (63_apu.md R452, R458,
R470). A sample is `APU_MIX` of them, a real number that reaches only the host (`Sample.value`; log 7). -/
structure Sample where
  p1 : BitVec 4
  p2 : BitVec 4
  n  : BitVec 4
deriving DecidableEq, Repr

/-- Bus state (61_bus.md R301) but for the cartridge reference. -/
structure Bus where
  /-- System RAM, 2048 bytes. -/
  ram : Mem
  /-- Controller bytes written by the host, ports 0 and 1 (R333). -/
  padIn0 : Byte
  padIn1 : Byte
  /-- Controller shift registers (R320, R321). -/
  padShift0 : Byte
  padShift1 : Byte
  /-- Bus steps since reset (R303). -/
  n : Nat
  dmaArmed : Bool
  dmaDummy : Bool
  dmaPage : Byte
  dmaAddr : Byte
  dmaData : Byte
  /-- Audio timing accumulator, a real number (R307; log 6). -/
  audioTime : AudioTime
  /-- Most recent audio sample (R307, R332), as what `APU_MIX` is applied to (log 7). -/
  sample : Sample
  /-- What the last `Clock()` returned (R305): the model's own field. -/
  sampleReady : Bool
deriving DecidableEq, Repr

/-- A per-scanline sprite slot (62_ppu.md R340). -/
structure Slot where
  y    : Byte
  id   : Byte
  attr : Byte
  x    : Byte
  lo   : Byte
  hi   : Byte
deriving DecidableEq, Repr

/-- Picture-unit state (62_ppu.md R340). -/
structure Ppu where
  ctrl : Byte
  mask : Byte
  vblank   : Bool
  zeroHit  : Bool
  overflow : Bool
  /-- Current loopy register (R357). -/
  v : BitVec 15
  /-- Temporary loopy register (R357). -/
  t : BitVec 15
  fineX : BitVec 3
  /-- Write toggle (R346). -/
  w : Bool
  dataBuf : Byte
  oamAddr : Byte
  /-- Object memory, 256 bytes (R358). -/
  oam : Mem
  /-- Nametable RAM, 2048 bytes: table 0 at 0, table 1 at 1024 (R355). -/
  nt : Mem
  /-- Palette RAM, 32 bytes (R356). -/
  pal : Mem
  /-- -1 to 260 (R360). -/
  scanline : Int
  /-- 0 to 340 (R360). -/
  dot : Nat
  ntByte : Byte
  atBits : BitVec 2
  ptLo : Byte
  ptHi : Byte
  bgLo : BitVec 16
  bgHi : BitVec 16
  bgAtLo : BitVec 16
  bgAtHi : BitVec 16
  slots : Vector Slot 8
  spriteCount : Nat
  zeroPossible : Bool
  /-- The NMI latch (R400). -/
  nmi : Bool
  frameComplete : Bool
  /-- Frame buffer: pixel `(x, y)` at index `256 * y + x`, each the 6-bit palette index (R395). -/
  frame : Mem
deriving DecidableEq, Repr

/-- An envelope (63_apu.md R420, R445). -/
structure Envelope where
  start    : Bool
  decay    : BitVec 4
  divider  : BitVec 4
  volume   : BitVec 4
  constant : Bool
deriving DecidableEq, Repr

/-- A sweep unit (63_apu.md R420, R448). -/
structure Sweep where
  enable  : Bool
  negate  : Bool
  shift   : BitVec 3
  period  : BitVec 3
  reload  : Bool
  divider : BitVec 3
deriving DecidableEq, Repr

/-- A pulse channel (63_apu.md R420). -/
structure Pulse where
  enabled : Bool
  duty    : BitVec 2
  seq     : Byte
  period  : BitVec 11
  timer   : BitVec 11
  length  : Byte
  halt    : Bool
  env     : Envelope
  sw      : Sweep
deriving DecidableEq, Repr

/-- The noise channel (63_apu.md R420). -/
structure Noise where
  enabled     : Bool
  lfsr        : BitVec 15
  periodIndex : BitVec 4
  timer       : BitVec 12
  length      : Byte
  halt        : Bool
  env         : Envelope
deriving DecidableEq, Repr

/-- Audio-unit state (63_apu.md R420). -/
structure Apu where
  pulse1 : Pulse
  pulse2 : Pulse
  noise  : Noise
  /-- Bus steps since the last audio tick, 0 to 5 (R440). -/
  tick6 : Nat
  /-- The frame sequencer, 0 to 14915 (R441). -/
  frameCtr : Nat
deriving DecidableEq, Repr

/-- The header-declared hardware mirroring (64_cartridge.md R480, R487), also mapper variant 4's `mirror` (R530). -/
inductive HwMirror where
  | horizontal
  | vertical
deriving DecidableEq, Repr

/-- Mapper variant 1 (64_cartridge.md R510). -/
structure Mapper1 where
  load    : BitVec 5
  /-- 0 to 4. -/
  count   : Nat
  control : BitVec 5
  chrLo   : BitVec 5
  chrHi   : BitVec 5
  chr8    : BitVec 5
  prgLo   : BitVec 4
  prgHi   : BitVec 4
  prg32   : BitVec 3
  /-- Cartridge RAM, 8192 bytes. -/
  ram     : Mem
deriving DecidableEq, Repr

/-- Mapper variant 2 (64_cartridge.md R520). -/
structure Mapper2 where
  prgLo : BitVec 4
  prgHi : Byte
deriving DecidableEq, Repr

/-- Mapper variant 3 (64_cartridge.md R525). -/
structure Mapper3 where
  chrSel : BitVec 2
deriving DecidableEq, Repr

/-- Mapper variant 4 (64_cartridge.md R530). -/
structure Mapper4 where
  target  : BitVec 3
  prgMode : Bool
  chrInv  : Bool
  r       : Vector Byte 8
  mirror  : HwMirror
  irqCounter : Byte
  irqReload  : Byte
  irqEnable  : Bool
  /-- The IRQ-pending flag. -/
  irqActive  : Bool
  /-- Cartridge RAM, 8192 bytes. -/
  ram     : Mem
deriving DecidableEq, Repr

/-- The active mapper, one of five variants (64_cartridge.md R484, R490); variant 0 has no state (R500). -/
inductive Mapper where
  | v0
  | v1 (m : Mapper1)
  | v2 (m : Mapper2)
  | v3 (m : Mapper3)
  | v4 (m : Mapper4)
deriving DecidableEq, Repr

/-- Cartridge state (64_cartridge.md R480). -/
structure Cart where
  prgBanks : Byte
  chrBanks : Byte
  mapperId : Byte
  hwMirror : HwMirror
  /-- PRG storage, `prgBanks * 16384` bytes. -/
  prg : Mem
  /-- CHR storage, `max(chrBanks, 1) * 8192` bytes. -/
  chr : Mem
  mapper : Mapper
deriving DecidableEq, Repr

/-- The arguments of the machine (00_scope.md R6): `APU_RESET`, `CART_RAM_INIT`, `ILLEGAL_CYCLES` and
`PPU_LEFT_CLIP_OUTPUT` are the builder's and never change; `SAMPLE_RATIO` is the host's (61_bus.md R307). They stand in
the state, so that a statement about every state holds for every value of them. -/
structure Params where
  /-- `ILLEGAL_CYCLES` (30_encoding.md R112). -/
  illegalCycles : IllegalCycles
  /-- `SAMPLE_RATIO`'s `t_step`, a positive real (R307; log 6). -/
  tStep : HostReal
  /-- `SAMPLE_RATIO`'s `t_sample`, a positive real (R307; log 6). -/
  tSample : HostReal
  /-- `PPU_LEFT_CLIP_OUTPUT` (62_ppu.md R390, R391). -/
  leftClip : Bool
  /-- `APU_RESET`: the audio unit's state after a reset (63_apu.md R475). -/
  apuReset : Apu
  /-- `CART_RAM_INIT`: cartridge RAM at construction, 8192 bytes (64_cartridge.md R510, R530). -/
  cartRamInit : Mem
deriving DecidableEq, Repr

/-- The whole machine. -/
structure State where
  cpu  : Cpu
  bus  : Bus
  ppu  : Ppu
  apu  : Apu
  /-- The inserted cartridge, if any (61_bus.md R301, R309). -/
  cart : Option Cart
  /-- The arguments of the machine (00_scope.md R6, 61_bus.md R307). -/
  params : Params
deriving DecidableEq, Repr

/-- Reasons a step stops with a fault: none. No instruction, address, opcode or register value faults
(60_exceptions.md R261, 93_implementation_defined.md: "There is no behaviour a model should treat as `stuck`"). -/
inductive Fault where
deriving DecidableEq, Repr

/-- Reasons a step is refused. -/
inductive Refusal where
  /-- An instruction without a meaning yet, named by its row of the opcode table. Raised by `exec`'s arms only, and
  by none of them now: every row has its meaning. Safe. -/
  | notModelled (mnemonic : String)
deriving DecidableEq, Repr

/-- An empty sprite slot after reset (62_ppu.md R410). -/
def Slot.zero : Slot := { y := 0, id := 0, attr := 0, x := 0, lo := 0, hi := 0 }

def Envelope.reset : Envelope := { start := false, decay := 0, divider := 0, volume := 0, constant := false }

def Sweep.reset : Sweep :=
  { enable := false, negate := false, shift := 0, period := 0, reload := false, divider := 0 }

def Pulse.reset : Pulse :=
  { enabled := false, duty := 0, seq := 0, period := 0, timer := 0, length := 0, halt := false,
    env := Envelope.reset, sw := Sweep.reset }

def Noise.reset : Noise :=
  { enabled := false, lfsr := 1, periodIndex := 0, timer := 0, length := 0, halt := false, env := Envelope.reset }

/-- The default of `APU_RESET`: everything zero or false, `lfsr = 1` (63_apu.md R475; DESIGN CHOICE, log 10). -/
def Apu.reset : Apu :=
  { pulse1 := Pulse.reset, pulse2 := Pulse.reset, noise := Noise.reset, tick6 := 0, frameCtr := 0 }

/-- The defaults of R6. `SAMPLE_RATIO` and `CART_RAM_INIT` have none: 1 to 1 and 0x00 throughout here (DESIGN CHOICE,
logs 6 and 2). -/
def Params.default : Params :=
  { illegalCycles := illegalCyclesDefault, tStep := .whole 1, tSample := .whole 1, leftClip := false, apuReset := Apu.reset,
    cartRamInit := [] }

/-- Everything `Ppu.Reset()` writes (62_ppu.md R410), with the memories it does not touch empty (log 2). -/
def Ppu.reset : Ppu :=
  { ctrl := 0, mask := 0, vblank := false, zeroHit := false, overflow := false, v := 0, t := 0, fineX := 0,
    w := false, dataBuf := 0, oamAddr := 0, oam := [], nt := [], pal := [], scanline := 0, dot := 0,
    ntByte := 0, atBits := 0, ptLo := 0, ptHi := 0, bgLo := 0, bgHi := 0, bgAtLo := 0, bgAtHi := 0,
    slots := Vector.replicate 8 Slot.zero, spriteCount := 0, zeroPossible := false, nmi := false,
    frameComplete := false, frame := [] }

/-- Bus state after reset (61_bus.md R304, 70_reset_and_hazards.md R551); `ram` is empty (log 2), `audioTime`,
`sample` and `sampleReady` are DESIGN CHOICE 0 (log 3). -/
def Bus.reset : Bus :=
  { ram := [], padIn0 := 0, padIn1 := 0, padShift0 := 0, padShift1 := 0, n := 0,
    dmaArmed := false, dmaDummy := true, dmaPage := 0, dmaAddr := 0, dmaData := 0,
    audioTime := AudioTime.zero, sample := { p1 := 0, p2 := 0, n := 0 }, sampleReady := false }

/-- CPU state after reset (10_state.md R50); `pc` is the word at 0xFFFC, which reads 0x0000 with no cartridge. -/
def Cpu.reset : Cpu := { a := 0, x := 0, y := 0, sp := 0xFD, p := 0x20, pc := 0, cycles := 8 }

/-- A launch state: the machine with arguments `q` right after `Bus.Reset()`, no cartridge inserted, its memories at
their power-on contents `RAM_INIT` and `PPU_MEM_INIT` and a frame (00_scope.md R6, 62_ppu.md R410, 63_apu.md R475,
70_reset_and_hazards.md R552, R553; logs 1 and 3). -/
def State.launch (q : Params) (ram oam nt pal frame : Mem) : State :=
  { cpu := Cpu.reset, bus := { Bus.reset with ram }, ppu := { Ppu.reset with oam, nt, pal, frame }, apu := q.apuReset,
    cart := none, params := q }

/-- The machine right after `Bus.Reset()` with no cartridge inserted (61_bus.md R304, R309; log 1), every argument of R6
at its default and every memory empty (log 2). A run of a program starts from `State.busReset` after a cartridge is
inserted (70_reset_and_hazards.md R560). -/
def State.reset : State := State.launch Params.default [] [] [] [] []

end Sys2Proof.Machine
end

