-- ==== Sys2Proof/Machine/Apu.lean ====
section
/-! DEFINITION. The audio unit (63_apu.md): its registers, its clock, its generators and its output. -/

namespace Sys2Proof.Machine

/-! ## Tables -/

/-- `LENGTH_TABLE` (R447). -/
def lengthTable : Vector Byte 32 := #v[
  10, 254, 20, 2, 40, 4, 80, 6, 160, 8, 60, 10, 14, 12, 26, 14,
  12, 16, 24, 18, 48, 20, 96, 22, 192, 24, 72, 26, 16, 28, 32, 30]

/-- The length loaded by `d[7:3]` (R426, R429). -/
def lengthLoad (d : Byte) : Byte :=
  lengthTable[(d.extractLsb' 3 5).toNat]'(d.extractLsb' 3 5).isLt

/-- `DUTY` (R451). -/
def dutyPattern (duty : BitVec 2) : Byte :=
  match duty.toNat with
  | 0 => 0b01000000
  | 1 => 0b01100000
  | 2 => 0b01111000
  | _ => 0b10011111

/-- `NOISE_PERIOD`, in CPU cycles (R456). -/
def noisePeriodTable : Vector Nat 16 := #v[4, 8, 16, 32, 64, 96, 128, 160, 202, 254, 380, 508, 762, 1016, 2034, 4068]

def noisePeriod (i : BitVec 4) : Nat := noisePeriodTable[i.toNat]'i.isLt

/-! ## Registers -/

/-- 0x4000 / 0x4004 (R423). -/
def Pulse.writeControl (p : Pulse) (d : Byte) : Pulse :=
  { p with
    duty := d.extractLsb' 6 2, halt := d.getLsbD 5,
    env := { p.env with constant := d.getLsbD 4, volume := d.extractLsb' 0 4 } }

/-- 0x4001 / 0x4005 (R424). -/
def Pulse.writeSweep (p : Pulse) (d : Byte) : Pulse :=
  { p with
    sw := { p.sw with
      enable := d.getLsbD 7, period := d.extractLsb' 4 3, negate := d.getLsbD 3, shift := d.extractLsb' 0 3,
      reload := true } }

/-- 0x4002 / 0x4006 (R425). -/
def Pulse.writePeriodLow (p : Pulse) (d : Byte) : Pulse := { p with period := setField p.period 0 d }

/-- 0x4003 / 0x4007 (R426). -/
def Pulse.writePeriodHigh (p : Pulse) (d : Byte) : Pulse :=
  let period := setField p.period 8 (d.extractLsb' 0 3)
  { p with
    period, timer := period, seq := dutyPattern p.duty,
    length := if p.enabled then lengthLoad d else p.length,
    env := { p.env with start := true } }

/-- A pulse channel's bit of 0x4015 (R430). -/
def Pulse.writeEnable (p : Pulse) (on : Bool) : Pulse :=
  { p with enabled := on, length := if on then p.length else 0 }

/-- 0x400C (R427). -/
def Noise.writeControl (z : Noise) (d : Byte) : Noise :=
  { z with halt := d.getLsbD 5, env := { z.env with constant := d.getLsbD 4, volume := d.extractLsb' 0 4 } }

/-- 0x400E (R428). -/
def Noise.writePeriod (z : Noise) (d : Byte) : Noise := { z with periodIndex := d.extractLsb' 0 4 }

/-- 0x400F (R429). -/
def Noise.writeLength (z : Noise) (d : Byte) : Noise :=
  { z with length := if z.enabled then lengthLoad d else z.length, env := { z.env with start := true } }

/-- The noise channel's bit of 0x4015 (R430). -/
def Noise.writeEnable (z : Noise) (on : Bool) : Noise :=
  { z with enabled := on, length := if on then z.length else 0 }

/-- A CPU write to an audio register, by address; the others of the window have no effect (R422 to R431). -/
def Apu.write (u : Apu) (a : Nat) (d : Byte) : Apu :=
  match a with
  | 0x4000 => { u with pulse1 := u.pulse1.writeControl d }
  | 0x4001 => { u with pulse1 := u.pulse1.writeSweep d }
  | 0x4002 => { u with pulse1 := u.pulse1.writePeriodLow d }
  | 0x4003 => { u with pulse1 := u.pulse1.writePeriodHigh d }
  | 0x4004 => { u with pulse2 := u.pulse2.writeControl d }
  | 0x4005 => { u with pulse2 := u.pulse2.writeSweep d }
  | 0x4006 => { u with pulse2 := u.pulse2.writePeriodLow d }
  | 0x4007 => { u with pulse2 := u.pulse2.writePeriodHigh d }
  | 0x400C => { u with noise := u.noise.writeControl d }
  | 0x400E => { u with noise := u.noise.writePeriod d }
  | 0x400F => { u with noise := u.noise.writeLength d }
  | 0x4015 =>
    { u with
      pulse1 := u.pulse1.writeEnable (d.getLsbD 0), pulse2 := u.pulse2.writeEnable (d.getLsbD 1),
      noise := u.noise.writeEnable (d.getLsbD 3) }
  | _ => u

/-- The value read at 0x4015 (R432). -/
def Apu.status (u : Apu) : Byte :=
  bitAt 8 (u.pulse1.length != 0) 0 ||| bitAt 8 (u.pulse2.length != 0) 1 ||| bitAt 8 (u.noise.length != 0) 3

/-! ## Generators -/

/-- `EnvelopeClock` (R445). -/
def Envelope.clock (e : Envelope) (loop : Bool) : Envelope :=
  if e.start then { e with start := false, decay := 15, divider := e.volume }
  else if e.divider = 0 then
    { e with divider := e.volume, decay := if e.decay ≠ 0 then e.decay - 1 else if loop then 15 else e.decay }
  else { e with divider := e.divider - 1 }

/-- `EnvelopeOut` (R445). -/
def Envelope.out (e : Envelope) : BitVec 4 := if e.constant then e.volume else e.decay

/-- `LengthClock` (R446). -/
def lengthClock (halt : Bool) (length : Byte) : Byte := if !halt && length != 0 then length - 1 else length

/-- `SweepTarget`, an integer that may exceed 0x7FF; pulse 1 subtracts one more (R448, C9). -/
def Pulse.sweepTarget (p : Pulse) (isPulse1 : Bool) : Nat :=
  let change := p.period.toNat >>> p.sw.shift.toNat
  if p.sw.negate then p.period.toNat - change - (if isPulse1 then 1 else 0) else p.period.toNat + change

/-- `SweepMute` (R448). -/
def Pulse.sweepMute (p : Pulse) (isPulse1 : Bool) : Bool := p.period.toNat < 8 || 0x7FF < p.sweepTarget isPulse1

/-- `SweepClock` (R448). -/
def Pulse.sweepClock (p : Pulse) (isPulse1 : Bool) : Pulse :=
  let period :=
    if p.sw.divider = 0 ∧ p.sw.enable ∧ p.sw.shift ≠ 0 ∧ ¬p.sweepMute isPulse1 then
      BitVec.ofNat 11 (p.sweepTarget isPulse1)
    else p.period
  let sw :=
    if p.sw.divider = 0 ∨ p.sw.reload then { p.sw with divider := p.sw.period, reload := false }
    else { p.sw with divider := p.sw.divider - 1 }
  { p with period, sw }

/-- `PulseTimerTick` (R450). -/
def Pulse.timerTick (p : Pulse) : Pulse :=
  if p.timer = 0 then { p with timer := p.period, seq := bitAt 8 (p.seq.getLsbD 0) 7 ||| (p.seq >>> 1) }
  else { p with timer := p.timer - 1 }

/-- `NoiseTimerTick` (R455). -/
def Noise.timerTick (z : Noise) : Noise :=
  if z.timer = 0 then
    { z with
      timer := BitVec.ofNat 12 (noisePeriod z.periodIndex / 2 - 1),
      lfsr := bitAt 15 (z.lfsr.getLsbD 0 ^^ z.lfsr.getLsbD 1) 14 ||| (z.lfsr >>> 1) }
  else { z with timer := z.timer - 1 }

/-- Pulse output, 0 to 15 (R452). -/
def Pulse.out (p : Pulse) (isPulse1 : Bool) : BitVec 4 :=
  if p.enabled && p.length != 0 && p.seq.getLsbD 0 && !p.sweepMute isPulse1 then p.env.out else 0

/-- Noise output, 0 to 15 (R458). -/
def Noise.out (z : Noise) : BitVec 4 :=
  if z.enabled && z.length != 0 && !z.lfsr.getLsbD 0 then z.env.out else 0

/-! ## Clock -/

/-- `QuarterFrame()` (R442). -/
def Apu.quarterFrame (u : Apu) : Apu :=
  { u with
    pulse1 := { u.pulse1 with env := u.pulse1.env.clock u.pulse1.halt },
    pulse2 := { u.pulse2 with env := u.pulse2.env.clock u.pulse2.halt },
    noise := { u.noise with env := u.noise.env.clock u.noise.halt } }

/-- `HalfFrame()`: lengths, then sweeps (R443). -/
def Apu.halfFrame (u : Apu) : Apu :=
  { u with
    pulse1 := { u.pulse1 with length := lengthClock u.pulse1.halt u.pulse1.length }.sweepClock true,
    pulse2 := { u.pulse2 with length := lengthClock u.pulse2.halt u.pulse2.length }.sweepClock false,
    noise := { u.noise with length := lengthClock u.noise.halt u.noise.length } }

/-- `FrameSequencerTick()` (R441). -/
def Apu.frameTick (u : Apu) : Apu :=
  let c := u.frameCtr + 1
  let quarter := c = 3729 ∨ c = 7457 ∨ c = 11186 ∨ c = 14916
  let half := c = 7457 ∨ c = 14916
  let u := { u with frameCtr := if c = 14916 then 0 else c }
  let u := if quarter then u.quarterFrame else u
  if half then u.halfFrame else u

/-- What every sixth `Apu.Clock()` does (R440). -/
def Apu.audioTick (u : Apu) : Apu :=
  let u := u.frameTick
  { u with pulse1 := u.pulse1.timerTick, pulse2 := u.pulse2.timerTick, noise := u.noise.timerTick }

/-- `Apu.Clock()` (R440). -/
def Apu.clock (u : Apu) : Apu :=
  let ticked := if u.tick6 = 0 then u.audioTick else u
  { ticked with tick6 := (u.tick6 + 1) % 6 }

/-- What `GetOutputSample()` mixes: the three channel outputs (R470). -/
def Apu.outputSample (u : Apu) : Sample := { p1 := u.pulse1.out true, p2 := u.pulse2.out false, n := u.noise.out }

/-- The value of a sample under the mixing function `mix`, which the model takes as an argument (R470, 61_bus.md R332;
log 7). -/
def Sample.value (mix : ApuMix) (x : Sample) : ℝ := mix x.p1 x.p2 x.n

end Sys2Proof.Machine
end

