-- ==== Sys2Proof/Machine/Flags.lean ====
section
/-! DEFINITION. The status register `P` (10_state.md R26 to R29) and every flag computation: zero and negative
(00_scope.md R9), add with carry (44_arith.md R190, R195), compare (R196), shifts (45_incdec_shift.md R206 to R209),
and the images of `P` on the stack (R27, R167, R169, R270). -/

namespace Sys2Proof.Machine

def flagC (p : Byte) : Bool := p.getLsbD 0
def flagZ (p : Byte) : Bool := p.getLsbD 1
def flagI (p : Byte) : Bool := p.getLsbD 2
def flagD (p : Byte) : Bool := p.getLsbD 3
def flagB (p : Byte) : Bool := p.getLsbD 4
def flagU (p : Byte) : Bool := p.getLsbD 5
def flagV (p : Byte) : Bool := p.getLsbD 6
def flagN (p : Byte) : Bool := p.getLsbD 7

def setC (b : Bool) (p : Byte) : Byte := setBit p 0 b
def setZ (b : Bool) (p : Byte) : Byte := setBit p 1 b
def setI (b : Bool) (p : Byte) : Byte := setBit p 2 b
def setD (b : Bool) (p : Byte) : Byte := setBit p 3 b
def setB (b : Bool) (p : Byte) : Byte := setBit p 4 b
def setV (b : Bool) (p : Byte) : Byte := setBit p 6 b
def setN (b : Bool) (p : Byte) : Byte := setBit p 7 b

/-- `SetZN(v)` (R9). -/
def setZN (v : Byte) (p : Byte) : Byte := setN (v.getLsbD 7) (setZ (v == 0) p)

/-- Add with carry: result, carry and signed overflow (R190, R195). -/
structure Sum where
  result   : Byte
  carry    : Bool
  overflow : Bool
deriving DecidableEq, Repr

/-- The 9-bit sum computed in 16 bits; the carry is `sum > 255`, the overflow the sign-bit XOR construction (R190). -/
def addWithCarry (a m : Byte) (c : Bool) : Sum :=
  let sum : BitVec 16 := a.setWidth 16 + m.setWidth 16 + (BitVec.ofBool c).setWidth 16
  let r : Byte := sum.setWidth 8
  { result := r, carry := decide (255 < sum.toNat), overflow := ((~~~(a ^^^ m)) &&& (a ^^^ r)).getLsbD 7 }

/-- The flags of an addition or subtraction: C, V, and Z, N of the 8-bit result (R190, R191). -/
def sumFlags (r : Sum) (p : Byte) : Byte := setZN r.result (setV r.overflow (setC r.carry p))

/-- `Compare(R, M)` (R196): C is unsigned `R >= M`; Z and N are those of the 8-bit difference. -/
def compareFlags (r m p : Byte) : Byte := setZN (r - m) (setC (decide (m.toNat ≤ r.toNat)) p)

/-- `BIT`: Z from `A & M`, N and V from bits 7 and 6 of `M` (43_logic.md R183). -/
def bitFlags (a m p : Byte) : Byte :=
  setV (m.getLsbD 6) (setN (m.getLsbD 7) (setZ (a &&& m == 0) p))

/-- A shifted value and the bit shifted out (R206 to R209). -/
structure Shifted where
  result : Byte
  out    : Bool
deriving DecidableEq, Repr

/-- R206. -/
def shiftLeft (m : Byte) : Shifted := { result := m <<< 1, out := m.getLsbD 7 }

/-- R207. -/
def shiftRight (m : Byte) : Shifted := { result := m >>> 1, out := m.getLsbD 0 }

/-- R208: the old carry enters bit 0. -/
def rotateLeft (m : Byte) (c : Bool) : Shifted := { result := (m <<< 1) ||| bitAt 8 c 0, out := m.getLsbD 7 }

/-- R209: the old carry enters bit 7. -/
def rotateRight (m : Byte) (c : Bool) : Shifted := { result := (m >>> 1) ||| bitAt 8 c 7, out := m.getLsbD 0 }

/-- C from the bit shifted out, Z and N from the result (R206 to R209). -/
def shiftFlags (r : Shifted) (p : Byte) : Byte := setZN r.result (setC r.out p)

/-- The image `PHP` and `BRK` push: B = 1, U = 1 (R27, R167, R248). -/
def softImage (p : Byte) : Byte := p ||| 0x30

/-- The image IRQ and NMI push: B = 0, U = 1 (R27, R270). -/
def interruptImage (p : Byte) : Byte := (p &&& 0xEF) ||| 0x20

/-- `P` from a pulled byte: B = 0, U = 1 (R27, R169, R249). -/
def pulledStatus (v : Byte) : Byte := (v &&& 0xCF) ||| 0x20

end Sys2Proof.Machine
end

