-- ==== Sys2Proof/Machine/Memory.lean ====
section
/-! DEFINITION. Memories: reading and writing one byte of a sparse memory, its canonical form, and building one from
a list of bytes. -/

namespace Sys2Proof.Machine

/-- The byte at index `k`; an unlisted byte reads 0x00 (log 2). -/
def Mem.read : Mem → Nat → Byte
  | [], _ => 0
  | (j, b) :: m, k => if j = k then b else Mem.read m k

/-- Without any entry for index `k`. -/
def Mem.drop (m : Mem) (k : Nat) : Mem := m.filter fun c => c.1 != k

/-- With an entry for index `k`, before the first entry of a higher index. -/
def Mem.place (k : Nat) (v : Byte) : Mem → Mem
  | [] => [(k, v)]
  | (j, b) :: m => if k < j then (k, v) :: (j, b) :: m else (j, b) :: Mem.place k v m

/-- Write one byte. Writing what an unlisted byte reads as removes the entry. -/
def Mem.write (m : Mem) (k : Nat) (v : Byte) : Mem :=
  if v = 0 then Mem.drop m k else Mem.place k v (Mem.drop m k)

/-- The canonical form of a memory of `size` bytes: indexes strictly rising and inside the memory, no entry equal to
what an unlisted byte reads as. -/
abbrev Mem.wf (size : Nat) (m : Mem) : Prop :=
  m.Pairwise (fun c d => c.1 < d.1) ∧ ∀ c ∈ m, c.1 < size ∧ c.2 ≠ 0

/-- The memory that holds `bs` at indexes `k`, `k + 1`, …. -/
def Mem.ofBytesFrom (k : Nat) : List Byte → Mem
  | [] => []
  | b :: bs => if b = 0 then Mem.ofBytesFrom (k + 1) bs else (k, b) :: Mem.ofBytesFrom (k + 1) bs

/-- The memory that holds `bs` at indexes 0, 1, …. -/
def Mem.ofBytes (bs : List Byte) : Mem := Mem.ofBytesFrom 0 bs

end Sys2Proof.Machine
end

