-- ==== Sys2Proof/Machine/Cartridge.lean ====
section
/-! DEFINITION. The cartridge and its five mapper variants (64_cartridge.md). -/

namespace Sys2Proof.Machine

/-- What a mapper answers to a CPU-side read (R485): the sentinel mapped address is `direct` (D61). -/
inductive MapResult where
  | notClaimed
  | direct (d : Byte)
  | offset (o : Nat)
deriving DecidableEq, Repr

/-- What a CPU-side write leaves: the cartridge, and whether the mapper claimed the write (R485). -/
structure CartWrite where
  cart    : Cart
  claimed : Bool
deriving DecidableEq, Repr

/-- `chr_is_ram` (R480). -/
def Cart.chrIsRam (c : Cart) : Bool := c.chrBanks == 0

/-- Size of PRG storage in bytes (R480). -/
def Cart.prgSize (c : Cart) : Nat := c.prgBanks.toNat * 16384

/-- Size of CHR storage in bytes (R480). -/
def Cart.chrSize (c : Cart) : Nat := max c.chrBanks.toNat 1 * 8192

/-! ## CPU side, reads -/

/-- Variants 0 and 3 (R500, R525): one bank at both 0x8000 and 0xC000, or two. -/
def fixedPrgRead (prgBanks : Byte) (a : Addr) : MapResult :=
  if 0x8000 ≤ a.toNat then .offset (a.toNat % (if 1 < prgBanks.toNat then 0x8000 else 0x4000)) else .notClaimed

/-- Variant 1 (R512). -/
def Mapper1.cpuMapRead (m : Mapper1) (a : Addr) : MapResult :=
  let n := a.toNat
  if n < 0x6000 then .notClaimed
  else if n < 0x8000 then .direct (Mem.read m.ram (n % 0x2000))
  else if m.control.getLsbD 3 then
    if n < 0xC000 then .offset (m.prgLo.toNat * 0x4000 + n % 0x4000)
    else .offset (m.prgHi.toNat * 0x4000 + n % 0x4000)
  else .offset (m.prg32.toNat * 0x8000 + n % 0x8000)

/-- Variant 2 (R520). -/
def Mapper2.cpuMapRead (m : Mapper2) (a : Addr) : MapResult :=
  let n := a.toNat
  if n < 0x8000 then .notClaimed
  else if n < 0xC000 then .offset (m.prgLo.toNat * 0x4000 + n % 0x4000)
  else .offset (m.prgHi.toNat * 0x4000 + n % 0x4000)

/-- Variant 4's 8 KiB PRG bank of window 0 to 3 (R532); `last = prg_banks * 2 - 1` (log 15 for no banks). -/
def Mapper4.prgBank (m : Mapper4) (prgBanks : Byte) (window : Nat) : Nat :=
  let last := prgBanks.toNat * 2 - 1
  let r6 := m.r[6].toNat % 64
  let r7 := m.r[7].toNat % 64
  match window with
  | 0 => if m.prgMode then last - 1 else r6
  | 1 => r7
  | 2 => if m.prgMode then r6 else last - 1
  | _ => last

/-- Variant 4 (R532). -/
def Mapper4.cpuMapRead (m : Mapper4) (prgBanks : Byte) (a : Addr) : MapResult :=
  let n := a.toNat
  if n < 0x6000 then .notClaimed
  else if n < 0x8000 then .direct (Mem.read m.ram (n % 0x2000))
  else .offset (m.prgBank prgBanks (n / 0x2000 % 4) * 0x2000 + n % 0x2000)

/-- `CPUMapRead` (R485, R500 to R532). -/
def Cart.cpuMapRead (c : Cart) (a : Addr) : MapResult :=
  match c.mapper with
  | .v0 => fixedPrgRead c.prgBanks a
  | .v1 m => m.cpuMapRead a
  | .v2 m => m.cpuMapRead a
  | .v3 _ => fixedPrgRead c.prgBanks a
  | .v4 m => m.cpuMapRead c.prgBanks a

/-- `Cart.CPURead`: the byte if the mapper claims the address; an offset beyond PRG storage reads 0x00 (R485,
R494). -/
def Cart.cpuRead (c : Cart) (a : Addr) : Option Byte :=
  match c.cpuMapRead a with
  | .notClaimed => none
  | .direct d => some d
  | .offset o => some (if o < c.prgSize then Mem.read c.prg o else 0)

/-! ## CPU side, writes -/

/-- Variant 1's `Commit(target, x)` (R514). -/
def Mapper1.commit (m : Mapper1) (prgBanks : Byte) (target : Nat) (x : BitVec 5) : Mapper1 :=
  match target with
  | 0 => { m with control := x }
  | 1 => if m.control.getLsbD 4 then { m with chrLo := x } else { m with chr8 := x &&& 0x1E }
  | 2 => if m.control.getLsbD 4 then { m with chrHi := x } else m
  | _ =>
    match (m.control.extractLsb' 2 2).toNat with
    | 0 | 1 => { m with prg32 := x.extractLsb' 1 3 }
    | 2 => { m with prgLo := 0, prgHi := x.extractLsb' 0 4 }
    | _ => { m with prgLo := x.extractLsb' 0 4, prgHi := (prgBanks - 1).setWidth 4 }

/-- Variant 1's serial register write at 0x8000 to 0xFFFF (R513). -/
def Mapper1.serialWrite (m : Mapper1) (prgBanks : Byte) (a : Addr) (d : Byte) : Mapper1 :=
  if d.getLsbD 7 then { m with load := 0, count := 0, control := m.control ||| 0x0C }
  else
    let load := (m.load >>> 1) ||| bitAt 5 (d.getLsbD 0) 4
    if m.count + 1 = 5 then
      { m.commit prgBanks (a.toNat / 0x2000 % 4) load with load := 0, count := 0 }
    else { m with load := load, count := m.count + 1 }

/-- Variant 4's register write at 0x8000 to 0xFFFF, by window and address parity (R533). -/
def Mapper4.registerWrite (m : Mapper4) (a : Addr) (d : Byte) : Mapper4 :=
  match a.toNat / 0x2000 % 4, a.getLsbD 0 with
  | 0, false => { m with target := d.extractLsb' 0 3, prgMode := d.getLsbD 6, chrInv := d.getLsbD 7 }
  | 0, true => { m with r := m.r.set m.target.toNat d m.target.isLt }
  | 1, false => { m with mirror := if d.getLsbD 0 then .horizontal else .vertical }
  | 1, true => m
  | 2, false => { m with irqReload := d }
  | 2, true => { m with irqCounter := 0 }
  | _, false => { m with irqEnable := false, irqActive := false }
  | _, true => { m with irqEnable := true }

/-- `CPUMapWrite` (R485, R500, R513, R522, R527, R533): cartridge RAM claims the write; register writes do not. -/
def Cart.cpuWrite (c : Cart) (a : Addr) (d : Byte) : CartWrite :=
  let n := a.toNat
  match c.mapper with
  | .v0 => ⟨c, false⟩
  | .v1 m =>
    if n < 0x6000 then ⟨c, false⟩
    else if n < 0x8000 then ⟨{ c with mapper := .v1 { m with ram := Mem.write m.ram (n % 0x2000) d } }, true⟩
    else ⟨{ c with mapper := .v1 (m.serialWrite c.prgBanks a d) }, false⟩
  | .v2 m =>
    if n < 0x8000 then ⟨c, false⟩ else ⟨{ c with mapper := .v2 { m with prgLo := d.extractLsb' 0 4 } }, false⟩
  | .v3 m =>
    if n < 0x8000 then ⟨c, false⟩ else ⟨{ c with mapper := .v3 { m with chrSel := d.extractLsb' 0 2 } }, false⟩
  | .v4 m =>
    if n < 0x6000 then ⟨c, false⟩
    else if n < 0x8000 then ⟨{ c with mapper := .v4 { m with ram := Mem.write m.ram (n % 0x2000) d } }, true⟩
    else ⟨{ c with mapper := .v4 (m.registerWrite a d) }, false⟩

/-! ## PPU side -/

/-- Variant 1's CHR offset (R515). -/
def Mapper1.chrOffset (m : Mapper1) (chrIsRam : Bool) (a : Nat) : Nat :=
  if chrIsRam then a
  else if m.control.getLsbD 4 then
    if a < 0x1000 then m.chrLo.toNat * 0x1000 + a % 0x1000 else m.chrHi.toNat * 0x1000 + a % 0x1000
  else m.chr8.toNat * 0x1000 + a % 0x2000

/-- Variant 4's 1 KiB CHR bank of slot 0 to 7 (R538). -/
def Mapper4.chrBank (m : Mapper4) (slot : Nat) : Nat :=
  match if m.chrInv then (slot + 4) % 8 else slot with
  | 0 => (m.r[0] &&& 0xFE).toNat
  | 1 => (m.r[0] ||| 1).toNat
  | 2 => (m.r[1] &&& 0xFE).toNat
  | 3 => (m.r[1] ||| 1).toNat
  | 4 => m.r[2].toNat
  | 5 => m.r[3].toNat
  | 6 => m.r[4].toNat
  | _ => m.r[5].toNat

/-- The CHR offset of a pattern-space address below 0x2000 (R502, R515, R523, R528, R538). -/
def Cart.chrOffset (c : Cart) (a : Nat) : Nat :=
  match c.mapper with
  | .v0 | .v2 _ => a
  | .v1 m => m.chrOffset c.chrIsRam a
  | .v3 m => m.chrSel.toNat * 0x2000 + a
  | .v4 m => m.chrBank (a / 0x400) * 0x400 + a % 0x400

/-- `Cart.PPURead`: every variant claims exactly the addresses below 0x2000; an offset beyond CHR storage reads 0x00
(R486). -/
def Cart.ppuRead (c : Cart) (a : BitVec 14) : Option Byte :=
  if a.toNat < 0x2000 then
    let o := c.chrOffset a.toNat
    some (if o < c.chrSize then Mem.read c.chr o else 0)
  else none

/-- `Cart.PPUWrite`: claimed below 0x2000 only when CHR is RAM, ignored beyond CHR storage (R486). -/
def Cart.ppuWrite (c : Cart) (a : BitVec 14) (d : Byte) : CartWrite :=
  if a.toNat < 0x2000 ∧ c.chrIsRam then
    let o := c.chrOffset a.toNat
    ⟨if o < c.chrSize then { c with chr := Mem.write c.chr o d } else c, true⟩
  else ⟨c, false⟩

/-! ## Mirroring -/

/-- The mirroring-mode enum (R487); `hardware` defers to the header. -/
inductive Mirror where
  | horizontal | vertical | onescreenLo | onescreenHi | hardware
deriving DecidableEq, Repr

def HwMirror.toMirror : HwMirror → Mirror
  | .horizontal => .horizontal
  | .vertical => .vertical

/-- `GetMirror()` (R502, R516, R523, R528, R539). -/
def Mapper.getMirror : Mapper → Mirror
  | .v0 | .v2 _ | .v3 _ => .hardware
  | .v1 m =>
    match (m.control.extractLsb' 0 2).toNat with
    | 0 => .onescreenLo
    | 1 => .onescreenHi
    | 2 => .vertical
    | _ => .horizontal
  | .v4 m => m.mirror.toMirror

/-- `Cart.Mirror()`: the mapper's mode unless it defers to the header (R487). -/
def Cart.mirror (c : Cart) : Mirror :=
  match c.mapper.getMirror with
  | .hardware => c.hwMirror.toMirror
  | m => m

/-! ## Scanline counter and IRQ -/

/-- Variant 4's `Scanline()` (R535). -/
def Mapper4.scanline (m : Mapper4) : Mapper4 :=
  let counter := if m.irqCounter = 0 then m.irqReload else m.irqCounter - 1
  { m with irqCounter := counter, irqActive := m.irqActive || (counter == 0 && m.irqEnable) }

/-- `Scanline()`, inert but in variant 4 (R488, R535). -/
def Cart.scanline (c : Cart) : Cart :=
  match c.mapper with
  | .v4 m => { c with mapper := .v4 m.scanline }
  | _ => c

/-- `IRQState()`, always false but in variant 4 (R488, R536). -/
def Cart.irqState (c : Cart) : Bool :=
  match c.mapper with
  | .v4 m => m.irqActive
  | _ => false

/-- `IRQClear()` (R536). -/
def Cart.irqClear (c : Cart) : Cart :=
  match c.mapper with
  | .v4 m => { c with mapper := .v4 { m with irqActive := false } }
  | _ => c

/-! ## Reset and construction -/

/-- The mapper's `Reset()` (R501, R511, R521, R526, R531); cartridge RAM is kept. -/
def Mapper.reset (prgBanks : Byte) : Mapper → Mapper
  | .v0 => .v0
  | .v1 m =>
    .v1 { load := 0, count := 0, control := 0x1C, chrLo := 0, chrHi := 0, chr8 := 0, prgLo := 0,
          prgHi := (prgBanks - 1).setWidth 4, prg32 := 0, ram := m.ram }
  | .v2 _ => .v2 { prgLo := 0, prgHi := prgBanks - 1 }
  | .v3 _ => .v3 { chrSel := 0 }
  | .v4 m =>
    .v4 { target := 0, prgMode := false, chrInv := false, r := #v[0, 2, 4, 5, 6, 7, 0, 1], mirror := .horizontal,
          irqCounter := 0, irqReload := 0, irqEnable := false, irqActive := false, ram := m.ram }

/-- `Cart.Reset()` (R492). -/
def Cart.reset (c : Cart) : Cart := { c with mapper := c.mapper.reset c.prgBanks }

/-- The mapper of an ID, constructed in its reset state (R484), cartridge RAM at `CART_RAM_INIT` (R510, R530, D62). -/
def Mapper.construct (ramInit : Mem) (id prgBanks : Byte) : Option Mapper :=
  let blank1 : Mapper1 :=
    { load := 0, count := 0, control := 0, chrLo := 0, chrHi := 0, chr8 := 0, prgLo := 0, prgHi := 0, prg32 := 0,
      ram := ramInit }
  let blank4 : Mapper4 :=
    { target := 0, prgMode := false, chrInv := false, r := Vector.replicate 8 0, mirror := .horizontal,
      irqCounter := 0, irqReload := 0, irqEnable := false, irqActive := false, ram := ramInit }
  let made : Option Mapper :=
    match id.toNat with
    | 0 => some .v0
    | 1 => some (.v1 blank1)
    | 2 => some (.v2 { prgLo := 0, prgHi := 0 })
    | 3 => some (.v3 { chrSel := 0 })
    | 4 => some (.v4 blank4)
    | _ => none
  made.map (Mapper.reset prgBanks)

/-- Build a cartridge from an image, with `CART_RAM_INIT` as `ramInit`: header (R481), trainer (R482), data (R483), mapper (R484). Bytes the image does
not supply are 0x00 (D53); an unrecognised mapper ID fails (R493). -/
def Cart.build (ramInit : Mem) (image : List Byte) : Option Cart :=
  let byte (k : Nat) : Byte := image.getD k 0
  let prgBanks := byte 4
  let chrBanks := byte 5
  let flag1 := byte 6
  let flag2 := byte 7
  let mapperId := (flag2 &&& 0xF0) ||| (flag1 >>> 4)
  let data := image.drop (if flag1.getLsbD 2 then 16 + 512 else 16)
  let prgSize := prgBanks.toNat * 16384
  let chrSize := chrBanks.toNat * 8192
  (Mapper.construct ramInit mapperId prgBanks).map fun mapper =>
    { prgBanks, chrBanks, mapperId,
      hwMirror := if flag1.getLsbD 0 then .vertical else .horizontal,
      prg := Mem.ofBytes (data.take prgSize),
      chr := Mem.ofBytes ((data.drop prgSize).take chrSize),
      mapper }

end Sys2Proof.Machine
end

