-- ==== Sys2Proof/Machine/PpuRegs.lean ====
section
/-! DEFINITION. The picture unit's address space and its eight CPU-visible registers (62_ppu.md R342 to R358). -/

namespace Sys2Proof.Machine

/-- What a read returns and leaves (00_scope.md R9). -/
structure Read where
  val : Byte
  st  : State

/-! ## PPU address space -/

/-- The mirroring mode in force; `HORIZONTAL` with no cartridge (R355). -/
def State.mirror (s : State) : Mirror :=
  match s.cart with
  | some c => c.mirror
  | none => .horizontal

/-- Which nametable quadrant `q` uses (R355). -/
def ntTable (m : Mirror) (q : Nat) : Nat :=
  match m with
  | .vertical => q % 2
  | .horizontal => q / 2
  | .onescreenLo => 0
  | .onescreenHi => 1
  | .hardware => q / 2

/-- Index into nametable RAM of a PPU address from 0x2000 to 0x3EFF (R355). -/
def ntIndex (m : Mirror) (a : Nat) : Nat := ntTable m (a / 0x400 % 4) * 0x400 + a % 0x400

/-- Index into palette RAM of a PPU address from 0x3F00 (R356): 0x10, 0x14, 0x18, 0x1C are mirrors. -/
def palIndex (a : Nat) : Nat :=
  let i := a % 0x20
  if i = 0x10 ∨ i = 0x14 ∨ i = 0x18 ∨ i = 0x1C then i - 0x10 else i

/-- A palette read, with the grayscale mask (R356). -/
def Ppu.palRead (u : Ppu) (a : Nat) : Byte :=
  Mem.read u.pal (palIndex a) &&& (if u.mask.getLsbD 0 then 0x30 else 0x3F)

/-- `PpuRead(a)` (R352): the cartridge is asked first. It changes nothing. -/
def State.ppuRead (s : State) (a : BitVec 14) : Byte :=
  match s.cart.bind (·.ppuRead a) with
  | some d => d
  | none =>
    let n := a.toNat
    if n < 0x2000 then 0
    else if n < 0x3F00 then Mem.read s.ppu.nt (ntIndex s.mirror n)
    else s.ppu.palRead n

/-- `PpuWrite(a, d)` below the cartridge: pattern space is ignored (R353, R355, R356). -/
def Ppu.memWrite (u : Ppu) (m : Mirror) (a : Nat) (d : Byte) : Ppu :=
  if a < 0x2000 then u
  else if a < 0x3F00 then { u with nt := Mem.write u.nt (ntIndex m a) d }
  else { u with pal := Mem.write u.pal (palIndex a) d }

/-- `PpuWrite(a, d)` (R353): the cartridge is asked first. -/
def State.ppuWrite (s : State) (a : BitVec 14) (d : Byte) : State :=
  match s.cart with
  | none => { s with ppu := s.ppu.memWrite s.mirror a.toNat d }
  | some c =>
    let r := c.ppuWrite a d
    if r.claimed then { s with cart := some r.cart }
    else { s with ppu := s.ppu.memWrite s.mirror a.toNat d }

/-! ## Registers -/

/-- The 14-bit address in `v` (R351). -/
def Ppu.dataAddr (u : Ppu) : BitVec 14 := u.v.setWidth 14

/-- `v` after a data-register access (R351). -/
def Ppu.nextV (u : Ppu) : BitVec 15 := u.v + (if u.ctrl.getLsbD 2 then 32 else 1)

/-- The byte a STATUS read returns (R345). -/
def Ppu.statusByte (u : Ppu) : Byte :=
  bitAt 8 u.vblank 7 ||| bitAt 8 u.zeroHit 6 ||| bitAt 8 u.overflow 5 ||| (u.dataBuf &&& 0x1F)

/-- STATUS read (R345). -/
def State.readStatus (s : State) : Read :=
  ⟨s.ppu.statusByte, { s with ppu := { s.ppu with vblank := false, w := false } }⟩

/-- DATA read: the delayed buffer, but for palette addresses, which answer at once (R351). -/
def State.readData (s : State) : Read :=
  let fetched := s.ppuRead s.ppu.dataAddr
  ⟨if 0x3F00 ≤ s.ppu.dataAddr.toNat then fetched else s.ppu.dataBuf,
   { s with ppu := { s.ppu with dataBuf := fetched, v := s.ppu.nextV } }⟩

/-- A CPU read of register `r` (R342): write-only registers read 0x00 with no effect. -/
def State.ppuRegRead (s : State) (r : Nat) : Read :=
  match r with
  | 2 => s.readStatus
  | 4 => ⟨Mem.read s.ppu.oam s.ppu.oamAddr.toNat, s⟩
  | 7 => s.readData
  | _ => ⟨0, s⟩

/-- CTRL write (R343). -/
def Ppu.writeCtrl (u : Ppu) (d : Byte) : Ppu := { u with ctrl := d, t := setField u.t 10 (d.extractLsb' 0 2) }

/-- OAMDATA write (R348). -/
def Ppu.writeOamData (u : Ppu) (d : Byte) : Ppu :=
  { u with oam := Mem.write u.oam u.oamAddr.toNat d, oamAddr := u.oamAddr + 1 }

/-- SCROLL write (R349). -/
def Ppu.writeScroll (u : Ppu) (d : Byte) : Ppu :=
  if u.w then
    { u with t := setField (setField u.t 12 (d.extractLsb' 0 3)) 5 (d.extractLsb' 3 5), w := false }
  else { u with fineX := d.extractLsb' 0 3, t := setField u.t 0 (d.extractLsb' 3 5), w := true }

/-- ADDR write (R350). -/
def Ppu.writeAddr (u : Ppu) (d : Byte) : Ppu :=
  if u.w then
    let t := setField u.t 0 d
    { u with t, v := t, w := false }
  else { u with t := setField u.t 8 ((d.extractLsb' 0 6).setWidth 7), w := true }

/-- DATA write (R351). -/
def State.writeData (s : State) (d : Byte) : State :=
  let s' := s.ppuWrite s.ppu.dataAddr d
  { s' with ppu := { s'.ppu with v := s'.ppu.nextV } }

/-- A CPU write of register `r` (R342); STATUS ignores it (R345). -/
def State.ppuRegWrite (s : State) (r : Nat) (d : Byte) : State :=
  match r with
  | 0 => { s with ppu := s.ppu.writeCtrl d }
  | 1 => { s with ppu := { s.ppu with mask := d } }
  | 3 => { s with ppu := { s.ppu with oamAddr := d } }
  | 4 => { s with ppu := s.ppu.writeOamData d }
  | 5 => { s with ppu := s.ppu.writeScroll d }
  | 6 => { s with ppu := s.ppu.writeAddr d }
  | 7 => s.writeData d
  | _ => s

end Sys2Proof.Machine
end

