-- ==== Sys2Proof/Machine/Ops.lean ====
section
/-! DEFINITION. The shared operations of the machine: register updates, CPU-side reads and writes through the bus
(20_memory.md R61 to R69), the stack, fetching an instruction, taking an exception (60_exceptions.md R270,
47_flags_system.md R248) and returning from one (R249), and reset (70_reset_and_hazards.md R550, 61_bus.md R304). -/

namespace Sys2Proof.Machine

/-! ## Register updates -/

def State.setA (s : State) (v : Byte) : State := { s with cpu := { s.cpu with a := v } }
def State.setX (s : State) (v : Byte) : State := { s with cpu := { s.cpu with x := v } }
def State.setY (s : State) (v : Byte) : State := { s with cpu := { s.cpu with y := v } }
def State.setSp (s : State) (v : Byte) : State := { s with cpu := { s.cpu with sp := v } }
def State.setP (s : State) (v : Byte) : State := { s with cpu := { s.cpu with p := v } }
def State.setPc (s : State) (v : Addr) : State := { s with cpu := { s.cpu with pc := v } }
def State.setCycles (s : State) (v : Nat) : State := { s with cpu := { s.cpu with cycles := v } }

/-- Apply a change to `P`. -/
def State.updP (s : State) (f : Byte → Byte) : State := s.setP (f s.cpu.p)

/-! ## CPU-side memory -/

/-- A controller read shifts the latch: the most significant bit comes out first, in bit 0 (61_bus.md R321). -/
def padBit (shift : Byte) : Byte := bitAt 8 (shift.getLsbD 7) 0

/-- Below the cartridge, a CPU read by the priority decode (R61, lines 2 to 7). -/
def State.busRead (s : State) (a : Addr) : Read :=
  let n := a.toNat
  if n < 0x2000 then ⟨Mem.read s.bus.ram (n % 0x800), s⟩
  else if n < 0x4000 then s.ppuRegRead (n % 8)
  else if n = 0x4015 then ⟨s.apu.status, s⟩
  else if n = 0x4016 then ⟨padBit s.bus.padShift0, { s with bus := { s.bus with padShift0 := s.bus.padShift0 <<< 1 } }⟩
  else if n = 0x4017 then ⟨padBit s.bus.padShift1, { s with bus := { s.bus with padShift1 := s.bus.padShift1 <<< 1 } }⟩
  else ⟨0, s⟩

/-- `MemRead(addr, 1)` = `CPURead(addr, false)` (R61, R62): the cartridge is asked first. -/
def State.memRead (s : State) (a : Addr) : Read :=
  match s.cart.bind (·.cpuRead a) with
  | some d => ⟨d, s⟩
  | none => s.busRead a

/-- `CPURead(addr, true)`, the debug path: the value the real read would return, and no side effect anywhere (R64, R321,
R345, D22; of R351 for a palette address see log 13). No instruction uses it. -/
def State.cpuPeek (s : State) (a : Addr) : Byte := (s.memRead a).val

/-- The addresses whose read has a side effect when no mapper claims them: picture-unit registers 2 and 7 and the two
controllers (R75). -/
def readHasEffect (a : Addr) : Bool :=
  let n := a.toNat
  (0x2000 ≤ n && n < 0x4000 && (n % 8 == 2 || n % 8 == 7)) || n == 0x4016 || n == 0x4017

/-- The addresses of the audio unit's write window (R61, R67). -/
def isAudioWrite (n : Nat) : Bool := (0x4000 ≤ n && n ≤ 0x4013) || n == 0x4015 || n == 0x4017

/-- Below the cartridge, a CPU write by the priority decode (R61, lines 2 to 7; R311, R320). -/
def State.busWrite (s : State) (a : Addr) (d : Byte) : State :=
  let n := a.toNat
  if n < 0x2000 then { s with bus := { s.bus with ram := Mem.write s.bus.ram (n % 0x800) d } }
  else if n < 0x4000 then s.ppuRegWrite (n % 8) d
  else if isAudioWrite n then { s with apu := s.apu.write n d }
  else if n = 0x4014 then { s with bus := { s.bus with dmaPage := d, dmaAddr := 0, dmaArmed := true } }
  else if n = 0x4016 then
    { s with bus := { s.bus with padShift0 := s.bus.padIn0, padShift1 := s.bus.padIn1 } }
  else s

/-- `MemWrite(addr, 1, v)` = `CPUWrite(addr, v)` (R61, R63, R68): the mapper is asked first; a write it does not claim
falls through, with its registers updated. -/
def State.memWrite (s : State) (a : Addr) (d : Byte) : State :=
  match s.cart with
  | none => s.busWrite a d
  | some c =>
    let r := c.cpuWrite a d
    let s' := { s with cart := some r.cart }
    if r.claimed then s' else s'.busWrite a d

/-- `MemRead16(addr)`: low byte first (R9). -/
structure Read16 where
  val : Addr
  st  : State

def State.memRead16 (s : State) (a : Addr) : Read16 :=
  let lo := s.memRead a
  let hi := lo.st.memRead (a + 1)
  ⟨joinBytes hi.val lo.val, hi.st⟩

/-! ## Stack -/

/-- The stack address of a stack pointer (10_state.md R21). -/
def stackAddr (sp : Byte) : Addr := 0x0100 + zext16 sp

/-- `Push(v)` (00_scope.md R9). -/
def State.push (s : State) (v : Byte) : State :=
  let s' := s.memWrite (stackAddr s.cpu.sp) v
  s'.setSp (s.cpu.sp - 1)

/-- `Pull()` (00_scope.md R9). -/
def State.pull (s : State) : Read := (s.setSp (s.cpu.sp + 1)).memRead (stackAddr (s.cpu.sp + 1))

/-- Push a 16-bit value, high byte first (R72). -/
def State.pushWord (s : State) (v : Addr) : State := (s.push (page v)).push (lowByte v)

/-- Pull a 16-bit value, low byte first (R222, R249). -/
def State.pullWord (s : State) : Read16 :=
  let lo := s.pull
  let hi := lo.st.pull
  ⟨joinBytes hi.val lo.val, hi.st⟩

/-! ## Fetching an instruction -/

/-- `MemRead(PC, 1); PC <- PC + 1` (R24, R25, R102). -/
def State.fetchByte (s : State) : Read :=
  let r := s.memRead s.cpu.pc
  ⟨r.val, r.st.setPc (s.cpu.pc + 1)⟩

/-- An instruction and the state after its bytes were read. -/
structure Fetched where
  instr : Instr
  st    : State

/-- Read the instruction at `PC`: opcode byte, then as many operand bytes as its format has, in ascending order
(R40, R102, R130). `PC` is left after the instruction (log 4). -/
def State.fetch (s : State) : Fetched :=
  let op := s.fetchByte
  match (opEntry op.val).make with
  | .none i => ⟨i, op.st⟩
  | .byte f =>
    let b := op.st.fetchByte
    ⟨f b.val, b.st⟩
  | .word f =>
    let lo := op.st.fetchByte
    let hi := lo.st.fetchByte
    ⟨f (joinBytes hi.val lo.val), hi.st⟩

/-! ## Exceptions -/

def nmiVector : Addr := 0xFFFA
def resetVector : Addr := 0xFFFC
def irqVector : Addr := 0xFFFE

/-- The part of exception entry common to NMI, IRQ and `BRK`: push `PC` (high byte first) and a status image, set I,
load `PC` from the vector, low byte first (R248, R270). -/
def State.takeException (s : State) (vector : Addr) (image : Byte) : State :=
  let pushed := (s.pushWord s.cpu.pc).push image
  let r := (pushed.updP (setI true)).memRead16 vector
  r.st.setPc r.val

/-- `Enter(vector, cost)` (R270): the interrupt image, B cleared, the entry cost. -/
def State.enter (s : State) (vector : Addr) (cost : Nat) : State :=
  let t := s.takeException vector (interruptImage s.cpu.p)
  (t.updP (setB false)).setCycles cost

/-- `NMI()`: never masked (R271). -/
def State.nmi (s : State) : State := s.enter nmiVector 8

/-- `IRQ()`: nothing at all while I is set (R272). -/
def State.irq (s : State) : State := if flagI s.cpu.p then s else s.enter irqVector 7

/-- Return from an exception: pull the status, then `PC` (R249, R280). -/
def State.returnFromException (s : State) : State :=
  let v := s.pull
  let r := (v.st.setP (pulledStatus v.val)).pullWord
  r.st.setPc r.val

/-! ## Reset -/

/-- `Cpu.Reset()` (R550). -/
def State.cpuReset (s : State) : State :=
  let r := s.memRead16 resetVector
  { r.st with cpu := { a := 0, x := 0, y := 0, sp := 0xFD, p := 0x20, pc := r.val, cycles := 8 } }

/-- `Ppu.Reset()`: everything but object memory, nametables, palette and frame (62_ppu.md R410). -/
def Ppu.resetKeepingMemory (u : Ppu) : Ppu :=
  { Ppu.reset with oam := u.oam, nt := u.nt, pal := u.pal, frame := u.frame }

/-- `Bus.Reset()`: cartridge, CPU, picture unit, audio unit, then the bus's own counter and DMA state (61_bus.md R304,
C3). The audio unit takes `APU_RESET` (63_apu.md R475). -/
def State.busReset (s : State) : State :=
  let s := { s with cart := s.cart.map Cart.reset }
  let s := s.cpuReset
  { s with
    ppu := s.ppu.resetKeepingMemory
    apu := s.params.apuReset
    bus := { s.bus with
      n := 0, dmaArmed := false, dmaDummy := true, dmaPage := 0, dmaAddr := 0, dmaData := 0 } }

end Sys2Proof.Machine
end

