-- ==== Sys2Proof/Machine/Operands.lean ====
section
/-! DEFINITION. Addressing modes (40_addressing_modes.md), and the shapes the instructions share: read an operand,
store, read-modify-write, implied, branch. Every meaning in the family files is one of these shapes with the operation
of its own. They run after `State.fetch`: `PC` stands after the instruction (R130). -/

namespace Sys2Proof.Machine

/-! ## Effective addresses -/

/-- An effective address, whether forming it crossed a page (`x1`), and the state after the pointer reads (R130). -/
structure Located where
  ea      : Addr
  crossed : Bool
  st      : State

/-- Two byte reads in order, as a little-endian value (R72). -/
def State.readPair (s : State) (loAt hiAt : Addr) : Read16 :=
  let lo := s.memRead loAt
  let hi := lo.st.memRead hiAt
  ⟨joinBytes hi.val lo.val, hi.st⟩

/-- A zero-page address: the high byte is always 0x00 (R133 to R137). -/
def zeroPage (z : Byte) : Addr := zext16 z

/-- An indexed address with its page-crossing report (R137, R139, R142). -/
def indexed (base : Addr) (index : Byte) (s : State) : Located :=
  let ea := base + zext16 index
  ⟨ea, page ea != page base, s⟩

/-- Where the high byte of an indirect jump's target is read: at the end of a page, from the start of the same page
(R140). -/
def indirectHigh (p : Addr) : Addr := if lowByte p = 0xFF then joinBytes (page p) 0x00 else p + 1

/-- The effective address of a memory format (R133 to R140, R142). -/
def State.locate (s : State) (m : MemMode) : Located :=
  match m with
  | .zp0 z => ⟨zeroPage z, false, s⟩
  | .zpx z => ⟨zeroPage (z + s.cpu.x), false, s⟩
  | .zpy z => ⟨zeroPage (z + s.cpu.y), false, s⟩
  | .izx z =>
    let p := z + s.cpu.x
    let r := s.readPair (zeroPage p) (zeroPage (p + 1))
    ⟨r.val, false, r.st⟩
  | .izy z =>
    let r := s.readPair (zeroPage z) (zeroPage (z + 1))
    indexed r.val s.cpu.y r.st
  | .abs a => ⟨a, false, s⟩
  | .abx a => indexed a s.cpu.x s
  | .aby a => indexed a s.cpu.y s
  | .ind p =>
    let r := s.readPair p (indirectHigh p)
    ⟨r.val, false, r.st⟩

/-- An operand byte, the mode's page-crossing report, and the state after the reads (R130). -/
structure Source where
  val     : Byte
  crossed : Bool
  st      : State

/-- Read the operand once (R130): `A` for `IMP` and `ACC` (R131), the immediate byte, which the fetch has read (R132),
the byte at the effective address, or a branch's offset byte (R141). -/
def State.source (s : State) (m : Mode) : Source :=
  match m with
  | .imp | .acc => ⟨s.cpu.a, false, s⟩
  | .imm v => ⟨v, false, s⟩
  | .mem m =>
    let l := s.locate m
    let r := l.st.memRead l.ea
    ⟨r.val, l.crossed, r.st⟩
  | .rel r => ⟨r, false, s⟩

/-! ## Instruction shapes -/

/-- An instruction that reads its operand: `base` cycles, plus one when the mode reports a page crossing and the
operation can use it (`x2`) (R40, R115). -/
def readOp (base : Nat) (x2 : Bool) (f : Byte → State → State) (m : Mode) (s : State) :
    Host.Outcome State Fault Refusal :=
  let o := (s.setCycles base).source m
  let t := f o.val o.st
  .next (t.setCycles (t.cpu.cycles + if o.crossed && x2 then 1 else 0))

/-- A store of a register: the location is not read first, and never an extra cycle (R153 to R155). -/
def storeOp (base : Nat) (reg : Cpu → Byte) (m : MemMode) (s : State) : Host.Outcome State Fault Refusal :=
  let l := (s.setCycles base).locate m
  .next (l.st.memWrite l.ea (reg l.st.cpu))

/-- What a read-modify-write operation computes from the operand and `P`: the value written and the new `P`. -/
structure Modified where
  val : Byte
  p   : Byte

/-- Read-modify-write on memory: exactly one read, then one write, no extra cycle (R82, 45_incdec_shift.md). -/
def modifyOp (base : Nat) (f : Byte → Byte → Modified) (m : MemMode) (s : State) :
    Host.Outcome State Fault Refusal :=
  let l := (s.setCycles base).locate m
  let r := l.st.memRead l.ea
  let o := f r.val r.st.cpu.p
  .next ((r.st.memWrite l.ea o.val).setP o.p)

/-- The accumulator form of a shift (R131, R206 to R209). -/
def accumulatorOp (base : Nat) (f : Byte → Byte → Modified) (s : State) : Host.Outcome State Fault Refusal :=
  let s := s.setCycles base
  let o := f s.cpu.a s.cpu.p
  .next ((s.setA o.val).setP o.p)

/-- An implied instruction. -/
def impliedOp (base : Nat) (f : State → State) (s : State) : Host.Outcome State Fault Refusal :=
  .next (f (s.setCycles base))

/-- `Branch(cond)` (R226): 2 cycles, 3 when taken, 4 when taken to another page than that of the instruction after the
branch. -/
def branchOp (cond : Byte → Bool) (r : Byte) (s : State) : Host.Outcome State Fault Refusal :=
  let target := s.cpu.pc + sext16 r
  if cond s.cpu.p then
    .next ((s.setCycles (if page target ≠ page s.cpu.pc then 4 else 3)).setPc target)
  else .next (s.setCycles 2)

end Sys2Proof.Machine
end

