-- ==== Sys2Proof/Machine/Arith.lean ====
section
/-! DEFINITION. Arithmetic and compares (44_arith.md R190 to R196), binary whatever `P.D` is (R29, R195). -/

namespace Sys2Proof.Machine

/-- `ADC` of an operand (R190). -/
def adcA (m : Byte) (s : State) : State :=
  let r := addWithCarry s.cpu.a m (flagC s.cpu.p)
  (s.setA r.result).updP (sumFlags r)

/-- `SBC` of an operand: `ADC` of its one's complement (R191). -/
def sbcA (m : Byte) (s : State) : State := adcA (m ^^^ 0xFF) s

/-- `Compare(A, M)` (R192, R196). -/
def compareA (m : Byte) (s : State) : State := s.updP (compareFlags s.cpu.a m)

/-- `Compare(X, M)` (R193, R196). -/
def compareX (m : Byte) (s : State) : State := s.updP (compareFlags s.cpu.x m)

/-- `Compare(Y, M)` (R194, R196). -/
def compareY (m : Byte) (s : State) : State := s.updP (compareFlags s.cpu.y m)

/-- `61` ADC IZX 6 (R190, R136). -/
def execAdcIzx (z : Byte) (s : State) : Host.Outcome State Fault Refusal := readOp 6 true adcA (.mem (.izx z)) s
/-- `65` ADC ZP0 3 (R190, R133). -/
def execAdcZp0 (z : Byte) (s : State) : Host.Outcome State Fault Refusal := readOp 3 true adcA (.mem (.zp0 z)) s
/-- `69` ADC IMM 2 (R190, R132). -/
def execAdcImm (v : Byte) (s : State) : Host.Outcome State Fault Refusal := readOp 2 true adcA (.imm v) s
/-- `6D` ADC ABS 4 (R190, R138). -/
def execAdcAbs (a : Addr) (s : State) : Host.Outcome State Fault Refusal := readOp 4 true adcA (.mem (.abs a)) s
/-- `71` ADC IZY 5 (R190, R137). -/
def execAdcIzy (z : Byte) (s : State) : Host.Outcome State Fault Refusal := readOp 5 true adcA (.mem (.izy z)) s
/-- `75` ADC ZPX 4 (R190, R134). -/
def execAdcZpx (z : Byte) (s : State) : Host.Outcome State Fault Refusal := readOp 4 true adcA (.mem (.zpx z)) s
/-- `79` ADC ABY 4 (R190, R142). -/
def execAdcAby (a : Addr) (s : State) : Host.Outcome State Fault Refusal := readOp 4 true adcA (.mem (.aby a)) s
/-- `7D` ADC ABX 4 (R190, R139). -/
def execAdcAbx (a : Addr) (s : State) : Host.Outcome State Fault Refusal := readOp 4 true adcA (.mem (.abx a)) s

/-- `E1` SBC IZX 6 (R191, R136). -/
def execSbcIzx (z : Byte) (s : State) : Host.Outcome State Fault Refusal := readOp 6 true sbcA (.mem (.izx z)) s
/-- `E5` SBC ZP0 3 (R191, R133). -/
def execSbcZp0 (z : Byte) (s : State) : Host.Outcome State Fault Refusal := readOp 3 true sbcA (.mem (.zp0 z)) s
/-- `E9` SBC IMM 2 (R191, R132). -/
def execSbcImm (v : Byte) (s : State) : Host.Outcome State Fault Refusal := readOp 2 true sbcA (.imm v) s
/-- `ED` SBC ABS 4 (R191, R138). -/
def execSbcAbs (a : Addr) (s : State) : Host.Outcome State Fault Refusal := readOp 4 true sbcA (.mem (.abs a)) s
/-- `F1` SBC IZY 5 (R191, R137). -/
def execSbcIzy (z : Byte) (s : State) : Host.Outcome State Fault Refusal := readOp 5 true sbcA (.mem (.izy z)) s
/-- `F5` SBC ZPX 4 (R191, R134). -/
def execSbcZpx (z : Byte) (s : State) : Host.Outcome State Fault Refusal := readOp 4 true sbcA (.mem (.zpx z)) s
/-- `F9` SBC ABY 4 (R191, R142). -/
def execSbcAby (a : Addr) (s : State) : Host.Outcome State Fault Refusal := readOp 4 true sbcA (.mem (.aby a)) s
/-- `FD` SBC ABX 4 (R191, R139). -/
def execSbcAbx (a : Addr) (s : State) : Host.Outcome State Fault Refusal := readOp 4 true sbcA (.mem (.abx a)) s

/-- `C1` CMP IZX 6 (R192, R136). -/
def execCmpIzx (z : Byte) (s : State) : Host.Outcome State Fault Refusal := readOp 6 true compareA (.mem (.izx z)) s
/-- `C5` CMP ZP0 3 (R192, R133). -/
def execCmpZp0 (z : Byte) (s : State) : Host.Outcome State Fault Refusal := readOp 3 true compareA (.mem (.zp0 z)) s
/-- `C9` CMP IMM 2 (R192, R132). -/
def execCmpImm (v : Byte) (s : State) : Host.Outcome State Fault Refusal := readOp 2 true compareA (.imm v) s
/-- `CD` CMP ABS 4 (R192, R138). -/
def execCmpAbs (a : Addr) (s : State) : Host.Outcome State Fault Refusal := readOp 4 true compareA (.mem (.abs a)) s
/-- `D1` CMP IZY 5 (R192, R137). -/
def execCmpIzy (z : Byte) (s : State) : Host.Outcome State Fault Refusal := readOp 5 true compareA (.mem (.izy z)) s
/-- `D5` CMP ZPX 4 (R192, R134). -/
def execCmpZpx (z : Byte) (s : State) : Host.Outcome State Fault Refusal := readOp 4 true compareA (.mem (.zpx z)) s
/-- `D9` CMP ABY 4 (R192, R142). -/
def execCmpAby (a : Addr) (s : State) : Host.Outcome State Fault Refusal := readOp 4 true compareA (.mem (.aby a)) s
/-- `DD` CMP ABX 4 (R192, R139). -/
def execCmpAbx (a : Addr) (s : State) : Host.Outcome State Fault Refusal := readOp 4 true compareA (.mem (.abx a)) s

/-- `E0` CPX IMM 2 (R193, R132). -/
def execCpxImm (v : Byte) (s : State) : Host.Outcome State Fault Refusal := readOp 2 false compareX (.imm v) s
/-- `E4` CPX ZP0 3 (R193, R133). -/
def execCpxZp0 (z : Byte) (s : State) : Host.Outcome State Fault Refusal := readOp 3 false compareX (.mem (.zp0 z)) s
/-- `EC` CPX ABS 4 (R193, R138). -/
def execCpxAbs (a : Addr) (s : State) : Host.Outcome State Fault Refusal := readOp 4 false compareX (.mem (.abs a)) s

/-- `C0` CPY IMM 2 (R194, R132). -/
def execCpyImm (v : Byte) (s : State) : Host.Outcome State Fault Refusal := readOp 2 false compareY (.imm v) s
/-- `C4` CPY ZP0 3 (R194, R133). -/
def execCpyZp0 (z : Byte) (s : State) : Host.Outcome State Fault Refusal := readOp 3 false compareY (.mem (.zp0 z)) s
/-- `CC` CPY ABS 4 (R194, R138). -/
def execCpyAbs (a : Addr) (s : State) : Host.Outcome State Fault Refusal := readOp 4 false compareY (.mem (.abs a)) s

end Sys2Proof.Machine
end

