-- ==== Sys2Proof/Machine/Control.lean ====
section
/-! DEFINITION. Control transfers (46_control.md R220 to R234). -/

namespace Sys2Proof.Machine

/-- `PC <- ea`: nothing is read or written at `ea` (R220). -/
def jumpTo (base : Nat) (m : MemMode) (s : State) : Host.Outcome State Fault Refusal :=
  let l := (s.setCycles base).locate m
  .next (l.st.setPc l.ea)

/-- Push the address of the last byte of the instruction, high byte first, then jump (R221). -/
def callTo (m : MemMode) (s : State) : Host.Outcome State Fault Refusal :=
  let l := (s.setCycles 6).locate m
  .next ((l.st.pushWord (l.st.cpu.pc - 1)).setPc l.ea)

/-- Pull the return address and add the one back (R222). -/
def returnFromSubroutine (s : State) : State :=
  let r := s.pullWord
  r.st.setPc (r.val + 1)

/-- `4C` JMP ABS 3 (R220, R138). -/
def execJmpAbs (a : Addr) (s : State) : Host.Outcome State Fault Refusal := jumpTo 3 (.abs a) s
/-- `6C` JMP IND 5 (R220, R140). -/
def execJmpInd (p : Addr) (s : State) : Host.Outcome State Fault Refusal := jumpTo 5 (.ind p) s

/-- `20` JSR ABS 6 (R221, R138). -/
def execJsrAbs (a : Addr) (s : State) : Host.Outcome State Fault Refusal := callTo (.abs a) s

/-- `60` RTS IMP 6 (R222, R131). -/
def execRts (s : State) : Host.Outcome State Fault Refusal := impliedOp 6 returnFromSubroutine s

/-- `90` BCC REL 2 (R227, R141). -/
def execBcc (r : Byte) (s : State) : Host.Outcome State Fault Refusal := branchOp (fun p => !flagC p) r s

/-- `B0` BCS REL 2 (R228, R141). -/
def execBcs (r : Byte) (s : State) : Host.Outcome State Fault Refusal := branchOp flagC r s

/-- `F0` BEQ REL 2 (R229, R141). -/
def execBeq (r : Byte) (s : State) : Host.Outcome State Fault Refusal := branchOp flagZ r s

/-- `D0` BNE REL 2 (R230, R141). -/
def execBne (r : Byte) (s : State) : Host.Outcome State Fault Refusal := branchOp (fun p => !flagZ p) r s

/-- `30` BMI REL 2 (R231, R141). -/
def execBmi (r : Byte) (s : State) : Host.Outcome State Fault Refusal := branchOp flagN r s

/-- `10` BPL REL 2 (R232, R141). -/
def execBpl (r : Byte) (s : State) : Host.Outcome State Fault Refusal := branchOp (fun p => !flagN p) r s

/-- `50` BVC REL 2 (R233, R141). -/
def execBvc (r : Byte) (s : State) : Host.Outcome State Fault Refusal := branchOp (fun p => !flagV p) r s

/-- `70` BVS REL 2 (R234, R141). -/
def execBvs (r : Byte) (s : State) : Host.Outcome State Fault Refusal := branchOp flagV r s

end Sys2Proof.Machine
end

