-- ==== Sys2Proof/Machine/Illegal.lean ====
section
/-! DEFINITION. The 105 illegal opcodes: one-byte no-ops that take the cycles `ILLEGAL_CYCLES` gives them
(30_encoding.md R112, 47_flags_system.md R250). -/

namespace Sys2Proof.Machine

/-- `ILLEGAL_CYCLES[op]`, 1 to 8, from the arguments of the machine (00_scope.md R6, R112; log 5). -/
def illegalCycles (q : Params) (op : Byte) : Nat :=
  let row := illegalRows.toList.findIdx (·.toList.any (·.1 == op))
  let column := ((illegalRows[row]?).map (·.toList.findIdx (·.1 == op))).getD 0
  (((q.illegalCycles[row]?).bind (·[column]?)).map fun c => c.val + 1).getD 1

/-- "execute as a documented no-op with a fixed cycle cost rather than faulting" (R250). -/
def illegalOp (op : Byte) (s : State) : Host.Outcome State Fault Refusal :=
  impliedOp (illegalCycles s.params op) (fun s => s) s

/-- `02` ILL_02 (R250). -/
def execIll02 (s : State) : Host.Outcome State Fault Refusal := illegalOp 0x02 s
/-- `03` ILL_03 (R250). -/
def execIll03 (s : State) : Host.Outcome State Fault Refusal := illegalOp 0x03 s
/-- `04` ILL_04 (R250). -/
def execIll04 (s : State) : Host.Outcome State Fault Refusal := illegalOp 0x04 s
/-- `07` ILL_07 (R250). -/
def execIll07 (s : State) : Host.Outcome State Fault Refusal := illegalOp 0x07 s
/-- `0B` ILL_0B (R250). -/
def execIll0B (s : State) : Host.Outcome State Fault Refusal := illegalOp 0x0B s
/-- `0C` ILL_0C (R250). -/
def execIll0C (s : State) : Host.Outcome State Fault Refusal := illegalOp 0x0C s
/-- `0F` ILL_0F (R250). -/
def execIll0F (s : State) : Host.Outcome State Fault Refusal := illegalOp 0x0F s
/-- `12` ILL_12 (R250). -/
def execIll12 (s : State) : Host.Outcome State Fault Refusal := illegalOp 0x12 s
/-- `13` ILL_13 (R250). -/
def execIll13 (s : State) : Host.Outcome State Fault Refusal := illegalOp 0x13 s
/-- `14` ILL_14 (R250). -/
def execIll14 (s : State) : Host.Outcome State Fault Refusal := illegalOp 0x14 s
/-- `17` ILL_17 (R250). -/
def execIll17 (s : State) : Host.Outcome State Fault Refusal := illegalOp 0x17 s
/-- `1A` ILL_1A (R250). -/
def execIll1A (s : State) : Host.Outcome State Fault Refusal := illegalOp 0x1A s
/-- `1B` ILL_1B (R250). -/
def execIll1B (s : State) : Host.Outcome State Fault Refusal := illegalOp 0x1B s
/-- `1C` ILL_1C (R250). -/
def execIll1C (s : State) : Host.Outcome State Fault Refusal := illegalOp 0x1C s
/-- `1F` ILL_1F (R250). -/
def execIll1F (s : State) : Host.Outcome State Fault Refusal := illegalOp 0x1F s
/-- `22` ILL_22 (R250). -/
def execIll22 (s : State) : Host.Outcome State Fault Refusal := illegalOp 0x22 s
/-- `23` ILL_23 (R250). -/
def execIll23 (s : State) : Host.Outcome State Fault Refusal := illegalOp 0x23 s
/-- `27` ILL_27 (R250). -/
def execIll27 (s : State) : Host.Outcome State Fault Refusal := illegalOp 0x27 s
/-- `2B` ILL_2B (R250). -/
def execIll2B (s : State) : Host.Outcome State Fault Refusal := illegalOp 0x2B s
/-- `2F` ILL_2F (R250). -/
def execIll2F (s : State) : Host.Outcome State Fault Refusal := illegalOp 0x2F s
/-- `32` ILL_32 (R250). -/
def execIll32 (s : State) : Host.Outcome State Fault Refusal := illegalOp 0x32 s
/-- `33` ILL_33 (R250). -/
def execIll33 (s : State) : Host.Outcome State Fault Refusal := illegalOp 0x33 s
/-- `34` ILL_34 (R250). -/
def execIll34 (s : State) : Host.Outcome State Fault Refusal := illegalOp 0x34 s
/-- `37` ILL_37 (R250). -/
def execIll37 (s : State) : Host.Outcome State Fault Refusal := illegalOp 0x37 s
/-- `3A` ILL_3A (R250). -/
def execIll3A (s : State) : Host.Outcome State Fault Refusal := illegalOp 0x3A s
/-- `3B` ILL_3B (R250). -/
def execIll3B (s : State) : Host.Outcome State Fault Refusal := illegalOp 0x3B s
/-- `3C` ILL_3C (R250). -/
def execIll3C (s : State) : Host.Outcome State Fault Refusal := illegalOp 0x3C s
/-- `3F` ILL_3F (R250). -/
def execIll3F (s : State) : Host.Outcome State Fault Refusal := illegalOp 0x3F s
/-- `42` ILL_42 (R250). -/
def execIll42 (s : State) : Host.Outcome State Fault Refusal := illegalOp 0x42 s
/-- `43` ILL_43 (R250). -/
def execIll43 (s : State) : Host.Outcome State Fault Refusal := illegalOp 0x43 s
/-- `44` ILL_44 (R250). -/
def execIll44 (s : State) : Host.Outcome State Fault Refusal := illegalOp 0x44 s
/-- `47` ILL_47 (R250). -/
def execIll47 (s : State) : Host.Outcome State Fault Refusal := illegalOp 0x47 s
/-- `4B` ILL_4B (R250). -/
def execIll4B (s : State) : Host.Outcome State Fault Refusal := illegalOp 0x4B s
/-- `4F` ILL_4F (R250). -/
def execIll4F (s : State) : Host.Outcome State Fault Refusal := illegalOp 0x4F s
/-- `52` ILL_52 (R250). -/
def execIll52 (s : State) : Host.Outcome State Fault Refusal := illegalOp 0x52 s
/-- `53` ILL_53 (R250). -/
def execIll53 (s : State) : Host.Outcome State Fault Refusal := illegalOp 0x53 s
/-- `54` ILL_54 (R250). -/
def execIll54 (s : State) : Host.Outcome State Fault Refusal := illegalOp 0x54 s
/-- `57` ILL_57 (R250). -/
def execIll57 (s : State) : Host.Outcome State Fault Refusal := illegalOp 0x57 s
/-- `5A` ILL_5A (R250). -/
def execIll5A (s : State) : Host.Outcome State Fault Refusal := illegalOp 0x5A s
/-- `5B` ILL_5B (R250). -/
def execIll5B (s : State) : Host.Outcome State Fault Refusal := illegalOp 0x5B s
/-- `5C` ILL_5C (R250). -/
def execIll5C (s : State) : Host.Outcome State Fault Refusal := illegalOp 0x5C s
/-- `5F` ILL_5F (R250). -/
def execIll5F (s : State) : Host.Outcome State Fault Refusal := illegalOp 0x5F s
/-- `62` ILL_62 (R250). -/
def execIll62 (s : State) : Host.Outcome State Fault Refusal := illegalOp 0x62 s
/-- `63` ILL_63 (R250). -/
def execIll63 (s : State) : Host.Outcome State Fault Refusal := illegalOp 0x63 s
/-- `64` ILL_64 (R250). -/
def execIll64 (s : State) : Host.Outcome State Fault Refusal := illegalOp 0x64 s
/-- `67` ILL_67 (R250). -/
def execIll67 (s : State) : Host.Outcome State Fault Refusal := illegalOp 0x67 s
/-- `6B` ILL_6B (R250). -/
def execIll6B (s : State) : Host.Outcome State Fault Refusal := illegalOp 0x6B s
/-- `6F` ILL_6F (R250). -/
def execIll6F (s : State) : Host.Outcome State Fault Refusal := illegalOp 0x6F s
/-- `72` ILL_72 (R250). -/
def execIll72 (s : State) : Host.Outcome State Fault Refusal := illegalOp 0x72 s
/-- `73` ILL_73 (R250). -/
def execIll73 (s : State) : Host.Outcome State Fault Refusal := illegalOp 0x73 s
/-- `74` ILL_74 (R250). -/
def execIll74 (s : State) : Host.Outcome State Fault Refusal := illegalOp 0x74 s
/-- `77` ILL_77 (R250). -/
def execIll77 (s : State) : Host.Outcome State Fault Refusal := illegalOp 0x77 s
/-- `7A` ILL_7A (R250). -/
def execIll7A (s : State) : Host.Outcome State Fault Refusal := illegalOp 0x7A s
/-- `7B` ILL_7B (R250). -/
def execIll7B (s : State) : Host.Outcome State Fault Refusal := illegalOp 0x7B s
/-- `7C` ILL_7C (R250). -/
def execIll7C (s : State) : Host.Outcome State Fault Refusal := illegalOp 0x7C s
/-- `7F` ILL_7F (R250). -/
def execIll7F (s : State) : Host.Outcome State Fault Refusal := illegalOp 0x7F s
/-- `80` ILL_80 (R250). -/
def execIll80 (s : State) : Host.Outcome State Fault Refusal := illegalOp 0x80 s
/-- `82` ILL_82 (R250). -/
def execIll82 (s : State) : Host.Outcome State Fault Refusal := illegalOp 0x82 s
/-- `83` ILL_83 (R250). -/
def execIll83 (s : State) : Host.Outcome State Fault Refusal := illegalOp 0x83 s
/-- `87` ILL_87 (R250). -/
def execIll87 (s : State) : Host.Outcome State Fault Refusal := illegalOp 0x87 s
/-- `89` ILL_89 (R250). -/
def execIll89 (s : State) : Host.Outcome State Fault Refusal := illegalOp 0x89 s
/-- `8B` ILL_8B (R250). -/
def execIll8B (s : State) : Host.Outcome State Fault Refusal := illegalOp 0x8B s
/-- `8F` ILL_8F (R250). -/
def execIll8F (s : State) : Host.Outcome State Fault Refusal := illegalOp 0x8F s
/-- `92` ILL_92 (R250). -/
def execIll92 (s : State) : Host.Outcome State Fault Refusal := illegalOp 0x92 s
/-- `93` ILL_93 (R250). -/
def execIll93 (s : State) : Host.Outcome State Fault Refusal := illegalOp 0x93 s
/-- `97` ILL_97 (R250). -/
def execIll97 (s : State) : Host.Outcome State Fault Refusal := illegalOp 0x97 s
/-- `9B` ILL_9B (R250). -/
def execIll9B (s : State) : Host.Outcome State Fault Refusal := illegalOp 0x9B s
/-- `9C` ILL_9C (R250). -/
def execIll9C (s : State) : Host.Outcome State Fault Refusal := illegalOp 0x9C s
/-- `9E` ILL_9E (R250). -/
def execIll9E (s : State) : Host.Outcome State Fault Refusal := illegalOp 0x9E s
/-- `9F` ILL_9F (R250). -/
def execIll9F (s : State) : Host.Outcome State Fault Refusal := illegalOp 0x9F s
/-- `A3` ILL_A3 (R250). -/
def execIllA3 (s : State) : Host.Outcome State Fault Refusal := illegalOp 0xA3 s
/-- `A7` ILL_A7 (R250). -/
def execIllA7 (s : State) : Host.Outcome State Fault Refusal := illegalOp 0xA7 s
/-- `AB` ILL_AB (R250). -/
def execIllAB (s : State) : Host.Outcome State Fault Refusal := illegalOp 0xAB s
/-- `AF` ILL_AF (R250). -/
def execIllAF (s : State) : Host.Outcome State Fault Refusal := illegalOp 0xAF s
/-- `B2` ILL_B2 (R250). -/
def execIllB2 (s : State) : Host.Outcome State Fault Refusal := illegalOp 0xB2 s
/-- `B3` ILL_B3 (R250). -/
def execIllB3 (s : State) : Host.Outcome State Fault Refusal := illegalOp 0xB3 s
/-- `B7` ILL_B7 (R250). -/
def execIllB7 (s : State) : Host.Outcome State Fault Refusal := illegalOp 0xB7 s
/-- `BB` ILL_BB (R250). -/
def execIllBB (s : State) : Host.Outcome State Fault Refusal := illegalOp 0xBB s
/-- `BF` ILL_BF (R250). -/
def execIllBF (s : State) : Host.Outcome State Fault Refusal := illegalOp 0xBF s
/-- `C2` ILL_C2 (R250). -/
def execIllC2 (s : State) : Host.Outcome State Fault Refusal := illegalOp 0xC2 s
/-- `C3` ILL_C3 (R250). -/
def execIllC3 (s : State) : Host.Outcome State Fault Refusal := illegalOp 0xC3 s
/-- `C7` ILL_C7 (R250). -/
def execIllC7 (s : State) : Host.Outcome State Fault Refusal := illegalOp 0xC7 s
/-- `CB` ILL_CB (R250). -/
def execIllCB (s : State) : Host.Outcome State Fault Refusal := illegalOp 0xCB s
/-- `CF` ILL_CF (R250). -/
def execIllCF (s : State) : Host.Outcome State Fault Refusal := illegalOp 0xCF s
/-- `D2` ILL_D2 (R250). -/
def execIllD2 (s : State) : Host.Outcome State Fault Refusal := illegalOp 0xD2 s
/-- `D3` ILL_D3 (R250). -/
def execIllD3 (s : State) : Host.Outcome State Fault Refusal := illegalOp 0xD3 s
/-- `D4` ILL_D4 (R250). -/
def execIllD4 (s : State) : Host.Outcome State Fault Refusal := illegalOp 0xD4 s
/-- `D7` ILL_D7 (R250). -/
def execIllD7 (s : State) : Host.Outcome State Fault Refusal := illegalOp 0xD7 s
/-- `DA` ILL_DA (R250). -/
def execIllDA (s : State) : Host.Outcome State Fault Refusal := illegalOp 0xDA s
/-- `DB` ILL_DB (R250). -/
def execIllDB (s : State) : Host.Outcome State Fault Refusal := illegalOp 0xDB s
/-- `DC` ILL_DC (R250). -/
def execIllDC (s : State) : Host.Outcome State Fault Refusal := illegalOp 0xDC s
/-- `DF` ILL_DF (R250). -/
def execIllDF (s : State) : Host.Outcome State Fault Refusal := illegalOp 0xDF s
/-- `E2` ILL_E2 (R250). -/
def execIllE2 (s : State) : Host.Outcome State Fault Refusal := illegalOp 0xE2 s
/-- `E3` ILL_E3 (R250). -/
def execIllE3 (s : State) : Host.Outcome State Fault Refusal := illegalOp 0xE3 s
/-- `E7` ILL_E7 (R250). -/
def execIllE7 (s : State) : Host.Outcome State Fault Refusal := illegalOp 0xE7 s
/-- `EB` ILL_EB (R250). -/
def execIllEB (s : State) : Host.Outcome State Fault Refusal := illegalOp 0xEB s
/-- `EF` ILL_EF (R250). -/
def execIllEF (s : State) : Host.Outcome State Fault Refusal := illegalOp 0xEF s
/-- `F2` ILL_F2 (R250). -/
def execIllF2 (s : State) : Host.Outcome State Fault Refusal := illegalOp 0xF2 s
/-- `F3` ILL_F3 (R250). -/
def execIllF3 (s : State) : Host.Outcome State Fault Refusal := illegalOp 0xF3 s
/-- `F4` ILL_F4 (R250). -/
def execIllF4 (s : State) : Host.Outcome State Fault Refusal := illegalOp 0xF4 s
/-- `F7` ILL_F7 (R250). -/
def execIllF7 (s : State) : Host.Outcome State Fault Refusal := illegalOp 0xF7 s
/-- `FA` ILL_FA (R250). -/
def execIllFA (s : State) : Host.Outcome State Fault Refusal := illegalOp 0xFA s
/-- `FB` ILL_FB (R250). -/
def execIllFB (s : State) : Host.Outcome State Fault Refusal := illegalOp 0xFB s
/-- `FC` ILL_FC (R250). -/
def execIllFC (s : State) : Host.Outcome State Fault Refusal := illegalOp 0xFC s
/-- `FF` ILL_FF (R250). -/
def execIllFF (s : State) : Host.Outcome State Fault Refusal := illegalOp 0xFF s

end Sys2Proof.Machine
end

