-- ==== Sys2Proof/Machine/LoadStore.lean ====
section
/-! DEFINITION. Loads and stores (41_load_store.md R150 to R155). -/

namespace Sys2Proof.Machine

/-- `A <- M; SetZN(A)` (R150). -/
def loadA (m : Byte) (s : State) : State := (s.setA m).updP (setZN m)

/-- `X <- M; SetZN(X)` (R151). -/
def loadX (m : Byte) (s : State) : State := (s.setX m).updP (setZN m)

/-- `Y <- M; SetZN(Y)` (R152). -/
def loadY (m : Byte) (s : State) : State := (s.setY m).updP (setZN m)

/-- `A1` LDA IZX 6 (R150, R136). -/
def execLdaIzx (z : Byte) (s : State) : Host.Outcome State Fault Refusal := readOp 6 true loadA (.mem (.izx z)) s
/-- `A5` LDA ZP0 3 (R150, R133). -/
def execLdaZp0 (z : Byte) (s : State) : Host.Outcome State Fault Refusal := readOp 3 true loadA (.mem (.zp0 z)) s
/-- `A9` LDA IMM 2 (R150, R132). -/
def execLdaImm (v : Byte) (s : State) : Host.Outcome State Fault Refusal := readOp 2 true loadA (.imm v) s
/-- `AD` LDA ABS 4 (R150, R138). -/
def execLdaAbs (a : Addr) (s : State) : Host.Outcome State Fault Refusal := readOp 4 true loadA (.mem (.abs a)) s
/-- `B1` LDA IZY 5 (R150, R137). -/
def execLdaIzy (z : Byte) (s : State) : Host.Outcome State Fault Refusal := readOp 5 true loadA (.mem (.izy z)) s
/-- `B5` LDA ZPX 4 (R150, R134). -/
def execLdaZpx (z : Byte) (s : State) : Host.Outcome State Fault Refusal := readOp 4 true loadA (.mem (.zpx z)) s
/-- `B9` LDA ABY 4 (R150, R142). -/
def execLdaAby (a : Addr) (s : State) : Host.Outcome State Fault Refusal := readOp 4 true loadA (.mem (.aby a)) s
/-- `BD` LDA ABX 4 (R150, R139). -/
def execLdaAbx (a : Addr) (s : State) : Host.Outcome State Fault Refusal := readOp 4 true loadA (.mem (.abx a)) s

/-- `A2` LDX IMM 2 (R151, R132). -/
def execLdxImm (v : Byte) (s : State) : Host.Outcome State Fault Refusal := readOp 2 true loadX (.imm v) s
/-- `A6` LDX ZP0 3 (R151, R133). -/
def execLdxZp0 (z : Byte) (s : State) : Host.Outcome State Fault Refusal := readOp 3 true loadX (.mem (.zp0 z)) s
/-- `AE` LDX ABS 4 (R151, R138). -/
def execLdxAbs (a : Addr) (s : State) : Host.Outcome State Fault Refusal := readOp 4 true loadX (.mem (.abs a)) s
/-- `B6` LDX ZPY 4 (R151, R135). -/
def execLdxZpy (z : Byte) (s : State) : Host.Outcome State Fault Refusal := readOp 4 true loadX (.mem (.zpy z)) s
/-- `BE` LDX ABY 4 (R151, R142). -/
def execLdxAby (a : Addr) (s : State) : Host.Outcome State Fault Refusal := readOp 4 true loadX (.mem (.aby a)) s

/-- `A0` LDY IMM 2 (R152, R132). -/
def execLdyImm (v : Byte) (s : State) : Host.Outcome State Fault Refusal := readOp 2 true loadY (.imm v) s
/-- `A4` LDY ZP0 3 (R152, R133). -/
def execLdyZp0 (z : Byte) (s : State) : Host.Outcome State Fault Refusal := readOp 3 true loadY (.mem (.zp0 z)) s
/-- `AC` LDY ABS 4 (R152, R138). -/
def execLdyAbs (a : Addr) (s : State) : Host.Outcome State Fault Refusal := readOp 4 true loadY (.mem (.abs a)) s
/-- `B4` LDY ZPX 4 (R152, R134). -/
def execLdyZpx (z : Byte) (s : State) : Host.Outcome State Fault Refusal := readOp 4 true loadY (.mem (.zpx z)) s
/-- `BC` LDY ABX 4 (R152, R139). -/
def execLdyAbx (a : Addr) (s : State) : Host.Outcome State Fault Refusal := readOp 4 true loadY (.mem (.abx a)) s

/-- `81` STA IZX 6 (R153, R136). -/
def execStaIzx (z : Byte) (s : State) : Host.Outcome State Fault Refusal := storeOp 6 (·.a) (.izx z) s
/-- `85` STA ZP0 3 (R153, R133). -/
def execStaZp0 (z : Byte) (s : State) : Host.Outcome State Fault Refusal := storeOp 3 (·.a) (.zp0 z) s
/-- `8D` STA ABS 4 (R153, R138). -/
def execStaAbs (a : Addr) (s : State) : Host.Outcome State Fault Refusal := storeOp 4 (·.a) (.abs a) s
/-- `91` STA IZY 6 (R153, R137). -/
def execStaIzy (z : Byte) (s : State) : Host.Outcome State Fault Refusal := storeOp 6 (·.a) (.izy z) s
/-- `95` STA ZPX 4 (R153, R134). -/
def execStaZpx (z : Byte) (s : State) : Host.Outcome State Fault Refusal := storeOp 4 (·.a) (.zpx z) s
/-- `99` STA ABY 5 (R153, R142). -/
def execStaAby (a : Addr) (s : State) : Host.Outcome State Fault Refusal := storeOp 5 (·.a) (.aby a) s
/-- `9D` STA ABX 5 (R153, R139). -/
def execStaAbx (a : Addr) (s : State) : Host.Outcome State Fault Refusal := storeOp 5 (·.a) (.abx a) s

/-- `86` STX ZP0 3 (R154, R133). -/
def execStxZp0 (z : Byte) (s : State) : Host.Outcome State Fault Refusal := storeOp 3 (·.x) (.zp0 z) s
/-- `8E` STX ABS 4 (R154, R138). -/
def execStxAbs (a : Addr) (s : State) : Host.Outcome State Fault Refusal := storeOp 4 (·.x) (.abs a) s
/-- `96` STX ZPY 4 (R154, R135). -/
def execStxZpy (z : Byte) (s : State) : Host.Outcome State Fault Refusal := storeOp 4 (·.x) (.zpy z) s

/-- `84` STY ZP0 3 (R155, R133). -/
def execStyZp0 (z : Byte) (s : State) : Host.Outcome State Fault Refusal := storeOp 3 (·.y) (.zp0 z) s
/-- `8C` STY ABS 4 (R155, R138). -/
def execStyAbs (a : Addr) (s : State) : Host.Outcome State Fault Refusal := storeOp 4 (·.y) (.abs a) s
/-- `94` STY ZPX 4 (R155, R134). -/
def execStyZpx (z : Byte) (s : State) : Host.Outcome State Fault Refusal := storeOp 4 (·.y) (.zpx z) s

end Sys2Proof.Machine
end

