-- ==== Sys2Proof/Machine/IncShift.lean ====
section
/-! DEFINITION. Increments, decrements, shifts and rotates (45_incdec_shift.md R200 to R209). -/

namespace Sys2Proof.Machine

/-- R200. -/
def incByte (m p : Byte) : Modified := ⟨m + 1, setZN (m + 1) p⟩

/-- R201. -/
def decByte (m p : Byte) : Modified := ⟨m - 1, setZN (m - 1) p⟩

/-- R206. -/
def aslByte (m p : Byte) : Modified := ⟨(shiftLeft m).result, shiftFlags (shiftLeft m) p⟩

/-- R207. -/
def lsrByte (m p : Byte) : Modified := ⟨(shiftRight m).result, shiftFlags (shiftRight m) p⟩

/-- R208: the old carry is read before the new one is written. -/
def rolByte (m p : Byte) : Modified := ⟨(rotateLeft m (flagC p)).result, shiftFlags (rotateLeft m (flagC p)) p⟩

/-- R209: the old carry is read before the new one is written. -/
def rorByte (m p : Byte) : Modified := ⟨(rotateRight m (flagC p)).result, shiftFlags (rotateRight m (flagC p)) p⟩

/-- `E6` INC ZP0 5 (R200, R133). -/
def execIncZp0 (z : Byte) (s : State) : Host.Outcome State Fault Refusal := modifyOp 5 incByte (.zp0 z) s
/-- `EE` INC ABS 6 (R200, R138). -/
def execIncAbs (a : Addr) (s : State) : Host.Outcome State Fault Refusal := modifyOp 6 incByte (.abs a) s
/-- `F6` INC ZPX 6 (R200, R134). -/
def execIncZpx (z : Byte) (s : State) : Host.Outcome State Fault Refusal := modifyOp 6 incByte (.zpx z) s
/-- `FE` INC ABX 7 (R200, R139). -/
def execIncAbx (a : Addr) (s : State) : Host.Outcome State Fault Refusal := modifyOp 7 incByte (.abx a) s

/-- `C6` DEC ZP0 5 (R201, R133). -/
def execDecZp0 (z : Byte) (s : State) : Host.Outcome State Fault Refusal := modifyOp 5 decByte (.zp0 z) s
/-- `CE` DEC ABS 6 (R201, R138). -/
def execDecAbs (a : Addr) (s : State) : Host.Outcome State Fault Refusal := modifyOp 6 decByte (.abs a) s
/-- `D6` DEC ZPX 6 (R201, R134). -/
def execDecZpx (z : Byte) (s : State) : Host.Outcome State Fault Refusal := modifyOp 6 decByte (.zpx z) s
/-- `DE` DEC ABX 7 (R201, R139). -/
def execDecAbx (a : Addr) (s : State) : Host.Outcome State Fault Refusal := modifyOp 7 decByte (.abx a) s

/-- `E8` INX IMP 2 (R202, R131). -/
def execInx (s : State) : Host.Outcome State Fault Refusal := impliedOp 2 (fun s => loadX (s.cpu.x + 1) s) s

/-- `C8` INY IMP 2 (R203, R131). -/
def execIny (s : State) : Host.Outcome State Fault Refusal := impliedOp 2 (fun s => loadY (s.cpu.y + 1) s) s

/-- `CA` DEX IMP 2 (R204, R131). -/
def execDex (s : State) : Host.Outcome State Fault Refusal := impliedOp 2 (fun s => loadX (s.cpu.x - 1) s) s

/-- `88` DEY IMP 2 (R205, R131). -/
def execDey (s : State) : Host.Outcome State Fault Refusal := impliedOp 2 (fun s => loadY (s.cpu.y - 1) s) s

/-- `06` ASL ZP0 5 (R206, R133). -/
def execAslZp0 (z : Byte) (s : State) : Host.Outcome State Fault Refusal := modifyOp 5 aslByte (.zp0 z) s
/-- `0A` ASL ACC 2 (R206, R131). -/
def execAslAcc (s : State) : Host.Outcome State Fault Refusal := accumulatorOp 2 aslByte s
/-- `0E` ASL ABS 6 (R206, R138). -/
def execAslAbs (a : Addr) (s : State) : Host.Outcome State Fault Refusal := modifyOp 6 aslByte (.abs a) s
/-- `16` ASL ZPX 6 (R206, R134). -/
def execAslZpx (z : Byte) (s : State) : Host.Outcome State Fault Refusal := modifyOp 6 aslByte (.zpx z) s
/-- `1E` ASL ABX 7 (R206, R139). -/
def execAslAbx (a : Addr) (s : State) : Host.Outcome State Fault Refusal := modifyOp 7 aslByte (.abx a) s

/-- `46` LSR ZP0 5 (R207, R133). -/
def execLsrZp0 (z : Byte) (s : State) : Host.Outcome State Fault Refusal := modifyOp 5 lsrByte (.zp0 z) s
/-- `4A` LSR ACC 2 (R207, R131). -/
def execLsrAcc (s : State) : Host.Outcome State Fault Refusal := accumulatorOp 2 lsrByte s
/-- `4E` LSR ABS 6 (R207, R138). -/
def execLsrAbs (a : Addr) (s : State) : Host.Outcome State Fault Refusal := modifyOp 6 lsrByte (.abs a) s
/-- `56` LSR ZPX 6 (R207, R134). -/
def execLsrZpx (z : Byte) (s : State) : Host.Outcome State Fault Refusal := modifyOp 6 lsrByte (.zpx z) s
/-- `5E` LSR ABX 7 (R207, R139). -/
def execLsrAbx (a : Addr) (s : State) : Host.Outcome State Fault Refusal := modifyOp 7 lsrByte (.abx a) s

/-- `26` ROL ZP0 5 (R208, R133). -/
def execRolZp0 (z : Byte) (s : State) : Host.Outcome State Fault Refusal := modifyOp 5 rolByte (.zp0 z) s
/-- `2A` ROL ACC 2 (R208, R131). -/
def execRolAcc (s : State) : Host.Outcome State Fault Refusal := accumulatorOp 2 rolByte s
/-- `2E` ROL ABS 6 (R208, R138). -/
def execRolAbs (a : Addr) (s : State) : Host.Outcome State Fault Refusal := modifyOp 6 rolByte (.abs a) s
/-- `36` ROL ZPX 6 (R208, R134). -/
def execRolZpx (z : Byte) (s : State) : Host.Outcome State Fault Refusal := modifyOp 6 rolByte (.zpx z) s
/-- `3E` ROL ABX 7 (R208, R139). -/
def execRolAbx (a : Addr) (s : State) : Host.Outcome State Fault Refusal := modifyOp 7 rolByte (.abx a) s

/-- `66` ROR ZP0 5 (R209, R133). -/
def execRorZp0 (z : Byte) (s : State) : Host.Outcome State Fault Refusal := modifyOp 5 rorByte (.zp0 z) s
/-- `6A` ROR ACC 2 (R209, R131). -/
def execRorAcc (s : State) : Host.Outcome State Fault Refusal := accumulatorOp 2 rorByte s
/-- `6E` ROR ABS 6 (R209, R138). -/
def execRorAbs (a : Addr) (s : State) : Host.Outcome State Fault Refusal := modifyOp 6 rorByte (.abs a) s
/-- `76` ROR ZPX 6 (R209, R134). -/
def execRorZpx (z : Byte) (s : State) : Host.Outcome State Fault Refusal := modifyOp 6 rorByte (.zpx z) s
/-- `7E` ROR ABX 7 (R209, R139). -/
def execRorAbx (a : Addr) (s : State) : Host.Outcome State Fault Refusal := modifyOp 7 rorByte (.abx a) s

end Sys2Proof.Machine
end

