-- ==== Sys2Proof/Machine/Logic.lean ====
section
/-! DEFINITION. Logical instructions (43_logic.md R180 to R183). -/

namespace Sys2Proof.Machine

/-- `A <- A & M; SetZN(A)` (R180). -/
def andA (m : Byte) (s : State) : State := loadA (s.cpu.a &&& m) s

/-- `A <- A | M; SetZN(A)` (R181). -/
def orA (m : Byte) (s : State) : State := loadA (s.cpu.a ||| m) s

/-- `A <- A ^ M; SetZN(A)` (R182). -/
def eorA (m : Byte) (s : State) : State := loadA (s.cpu.a ^^^ m) s

/-- R183: `A` is unchanged. -/
def bitTest (m : Byte) (s : State) : State := s.updP (bitFlags s.cpu.a m)

/-- `21` AND IZX 6 (R180, R136). -/
def execAndIzx (z : Byte) (s : State) : Host.Outcome State Fault Refusal := readOp 6 true andA (.mem (.izx z)) s
/-- `25` AND ZP0 3 (R180, R133). -/
def execAndZp0 (z : Byte) (s : State) : Host.Outcome State Fault Refusal := readOp 3 true andA (.mem (.zp0 z)) s
/-- `29` AND IMM 2 (R180, R132). -/
def execAndImm (v : Byte) (s : State) : Host.Outcome State Fault Refusal := readOp 2 true andA (.imm v) s
/-- `2D` AND ABS 4 (R180, R138). -/
def execAndAbs (a : Addr) (s : State) : Host.Outcome State Fault Refusal := readOp 4 true andA (.mem (.abs a)) s
/-- `31` AND IZY 5 (R180, R137). -/
def execAndIzy (z : Byte) (s : State) : Host.Outcome State Fault Refusal := readOp 5 true andA (.mem (.izy z)) s
/-- `35` AND ZPX 4 (R180, R134). -/
def execAndZpx (z : Byte) (s : State) : Host.Outcome State Fault Refusal := readOp 4 true andA (.mem (.zpx z)) s
/-- `39` AND ABY 4 (R180, R142). -/
def execAndAby (a : Addr) (s : State) : Host.Outcome State Fault Refusal := readOp 4 true andA (.mem (.aby a)) s
/-- `3D` AND ABX 4 (R180, R139). -/
def execAndAbx (a : Addr) (s : State) : Host.Outcome State Fault Refusal := readOp 4 true andA (.mem (.abx a)) s

/-- `01` ORA IZX 6 (R181, R136). -/
def execOraIzx (z : Byte) (s : State) : Host.Outcome State Fault Refusal := readOp 6 true orA (.mem (.izx z)) s
/-- `05` ORA ZP0 3 (R181, R133). -/
def execOraZp0 (z : Byte) (s : State) : Host.Outcome State Fault Refusal := readOp 3 true orA (.mem (.zp0 z)) s
/-- `09` ORA IMM 2 (R181, R132). -/
def execOraImm (v : Byte) (s : State) : Host.Outcome State Fault Refusal := readOp 2 true orA (.imm v) s
/-- `0D` ORA ABS 4 (R181, R138). -/
def execOraAbs (a : Addr) (s : State) : Host.Outcome State Fault Refusal := readOp 4 true orA (.mem (.abs a)) s
/-- `11` ORA IZY 5 (R181, R137). -/
def execOraIzy (z : Byte) (s : State) : Host.Outcome State Fault Refusal := readOp 5 true orA (.mem (.izy z)) s
/-- `15` ORA ZPX 4 (R181, R134). -/
def execOraZpx (z : Byte) (s : State) : Host.Outcome State Fault Refusal := readOp 4 true orA (.mem (.zpx z)) s
/-- `19` ORA ABY 4 (R181, R142). -/
def execOraAby (a : Addr) (s : State) : Host.Outcome State Fault Refusal := readOp 4 true orA (.mem (.aby a)) s
/-- `1D` ORA ABX 4 (R181, R139). -/
def execOraAbx (a : Addr) (s : State) : Host.Outcome State Fault Refusal := readOp 4 true orA (.mem (.abx a)) s

/-- `41` EOR IZX 6 (R182, R136). -/
def execEorIzx (z : Byte) (s : State) : Host.Outcome State Fault Refusal := readOp 6 true eorA (.mem (.izx z)) s
/-- `45` EOR ZP0 3 (R182, R133). -/
def execEorZp0 (z : Byte) (s : State) : Host.Outcome State Fault Refusal := readOp 3 true eorA (.mem (.zp0 z)) s
/-- `49` EOR IMM 2 (R182, R132). -/
def execEorImm (v : Byte) (s : State) : Host.Outcome State Fault Refusal := readOp 2 true eorA (.imm v) s
/-- `4D` EOR ABS 4 (R182, R138). -/
def execEorAbs (a : Addr) (s : State) : Host.Outcome State Fault Refusal := readOp 4 true eorA (.mem (.abs a)) s
/-- `51` EOR IZY 5 (R182, R137). -/
def execEorIzy (z : Byte) (s : State) : Host.Outcome State Fault Refusal := readOp 5 true eorA (.mem (.izy z)) s
/-- `55` EOR ZPX 4 (R182, R134). -/
def execEorZpx (z : Byte) (s : State) : Host.Outcome State Fault Refusal := readOp 4 true eorA (.mem (.zpx z)) s
/-- `59` EOR ABY 4 (R182, R142). -/
def execEorAby (a : Addr) (s : State) : Host.Outcome State Fault Refusal := readOp 4 true eorA (.mem (.aby a)) s
/-- `5D` EOR ABX 4 (R182, R139). -/
def execEorAbx (a : Addr) (s : State) : Host.Outcome State Fault Refusal := readOp 4 true eorA (.mem (.abx a)) s

/-- `24` BIT ZP0 3 (R183, R133). -/
def execBitZp0 (z : Byte) (s : State) : Host.Outcome State Fault Refusal := readOp 3 false bitTest (.mem (.zp0 z)) s
/-- `2C` BIT ABS 4 (R183, R138). -/
def execBitAbs (a : Addr) (s : State) : Host.Outcome State Fault Refusal := readOp 4 false bitTest (.mem (.abs a)) s

end Sys2Proof.Machine
end

