-- ==== Sys2Proof/Machine/System.lean ====
section
/-! DEFINITION. Flag instructions, `NOP`, `BRK` and `RTI` (47_flags_system.md R240 to R249). -/

namespace Sys2Proof.Machine

/-- R248: skip the padding byte, which is not read, then enter through the IRQ vector with B = 1 in the image. -/
def breakEntry (s : State) : State := (s.setPc (s.cpu.pc + 1)).takeException irqVector (softImage s.cpu.p)

/-- `18` CLC IMP 2 (R240, R131). -/
def execClc (s : State) : Host.Outcome State Fault Refusal := impliedOp 2 (fun s => s.updP (setC false)) s

/-- `38` SEC IMP 2 (R241, R131). -/
def execSec (s : State) : Host.Outcome State Fault Refusal := impliedOp 2 (fun s => s.updP (setC true)) s

/-- `58` CLI IMP 2 (R242, R131). -/
def execCli (s : State) : Host.Outcome State Fault Refusal := impliedOp 2 (fun s => s.updP (setI false)) s

/-- `78` SEI IMP 2 (R243, R131). -/
def execSei (s : State) : Host.Outcome State Fault Refusal := impliedOp 2 (fun s => s.updP (setI true)) s

/-- `D8` CLD IMP 2 (R244, R131). -/
def execCld (s : State) : Host.Outcome State Fault Refusal := impliedOp 2 (fun s => s.updP (setD false)) s

/-- `F8` SED IMP 2 (R245, R131). -/
def execSed (s : State) : Host.Outcome State Fault Refusal := impliedOp 2 (fun s => s.updP (setD true)) s

/-- `B8` CLV IMP 2 (R246, R131). -/
def execClv (s : State) : Host.Outcome State Fault Refusal := impliedOp 2 (fun s => s.updP (setV false)) s

/-- `EA` NOP IMP 2 (R247, R131). -/
def execNop (s : State) : Host.Outcome State Fault Refusal := impliedOp 2 (fun s => s) s

/-- `00` BRK IMP 7 (R248, R131). -/
def execBrk (s : State) : Host.Outcome State Fault Refusal := impliedOp 7 breakEntry s

/-- `40` RTI IMP 6 (R249, R131). -/
def execRti (s : State) : Host.Outcome State Fault Refusal := impliedOp 6 State.returnFromException s

end Sys2Proof.Machine
end

