-- ==== Sys2Proof/Machine/Transfer.lean ====
section
/-! DEFINITION. Register transfers and stack instructions (42_transfer_stack.md R160 to R169). -/

namespace Sys2Proof.Machine

/-- `A <- Pull(); SetZN(A)` (R168). -/
def pullA (s : State) : State :=
  let r := s.pull
  loadA r.val r.st

/-- `P` from a pulled byte, bits 4 and 5 ignored (R169). -/
def pullP (s : State) : State :=
  let r := s.pull
  r.st.setP (pulledStatus r.val)

/-- `AA` TAX IMP 2 (R160, R131). -/
def execTax (s : State) : Host.Outcome State Fault Refusal := impliedOp 2 (fun s => loadX s.cpu.a s) s

/-- `A8` TAY IMP 2 (R161, R131). -/
def execTay (s : State) : Host.Outcome State Fault Refusal := impliedOp 2 (fun s => loadY s.cpu.a s) s

/-- `8A` TXA IMP 2 (R162, R131). -/
def execTxa (s : State) : Host.Outcome State Fault Refusal := impliedOp 2 (fun s => loadA s.cpu.x s) s

/-- `98` TYA IMP 2 (R163, R131). -/
def execTya (s : State) : Host.Outcome State Fault Refusal := impliedOp 2 (fun s => loadA s.cpu.y s) s

/-- `BA` TSX IMP 2 (R164, R131). -/
def execTsx (s : State) : Host.Outcome State Fault Refusal := impliedOp 2 (fun s => loadX s.cpu.sp s) s

/-- `9A` TXS IMP 2 (R165, R131). -/
def execTxs (s : State) : Host.Outcome State Fault Refusal := impliedOp 2 (fun s => s.setSp s.cpu.x) s

/-- `48` PHA IMP 3 (R166, R131). -/
def execPha (s : State) : Host.Outcome State Fault Refusal := impliedOp 3 (fun s => s.push s.cpu.a) s

/-- `08` PHP IMP 3 (R167, R131). -/
def execPhp (s : State) : Host.Outcome State Fault Refusal := impliedOp 3 (fun s => s.push (softImage s.cpu.p)) s

/-- `68` PLA IMP 4 (R168, R131). -/
def execPla (s : State) : Host.Outcome State Fault Refusal := impliedOp 4 pullA s

/-- `28` PLP IMP 4 (R169, R131). -/
def execPlp (s : State) : Host.Outcome State Fault Refusal := impliedOp 4 pullP s

end Sys2Proof.Machine
end

