-- ==== Sys2Proof/Machine/Dispatch.lean ====
section
/-! DEFINITION. What each instruction does: one arm per constructor of `Instr`, each one call of its meaning. -/

namespace Sys2Proof.Machine

open Sys2Proof

def exec (i : Instr) (s : State) : Host.Outcome State Fault Refusal :=
  match i with
  | .ldaIzx z => Sys2Proof.Machine.execLdaIzx z s
  | .ldaZp0 z => Sys2Proof.Machine.execLdaZp0 z s
  | .ldaImm v => Sys2Proof.Machine.execLdaImm v s
  | .ldaAbs a => Sys2Proof.Machine.execLdaAbs a s
  | .ldaIzy z => Sys2Proof.Machine.execLdaIzy z s
  | .ldaZpx z => Sys2Proof.Machine.execLdaZpx z s
  | .ldaAby a => Sys2Proof.Machine.execLdaAby a s
  | .ldaAbx a => Sys2Proof.Machine.execLdaAbx a s
  | .ldxImm v => Sys2Proof.Machine.execLdxImm v s
  | .ldxZp0 z => Sys2Proof.Machine.execLdxZp0 z s
  | .ldxAbs a => Sys2Proof.Machine.execLdxAbs a s
  | .ldxZpy z => Sys2Proof.Machine.execLdxZpy z s
  | .ldxAby a => Sys2Proof.Machine.execLdxAby a s
  | .ldyImm v => Sys2Proof.Machine.execLdyImm v s
  | .ldyZp0 z => Sys2Proof.Machine.execLdyZp0 z s
  | .ldyAbs a => Sys2Proof.Machine.execLdyAbs a s
  | .ldyZpx z => Sys2Proof.Machine.execLdyZpx z s
  | .ldyAbx a => Sys2Proof.Machine.execLdyAbx a s
  | .staIzx z => Sys2Proof.Machine.execStaIzx z s
  | .staZp0 z => Sys2Proof.Machine.execStaZp0 z s
  | .staAbs a => Sys2Proof.Machine.execStaAbs a s
  | .staIzy z => Sys2Proof.Machine.execStaIzy z s
  | .staZpx z => Sys2Proof.Machine.execStaZpx z s
  | .staAby a => Sys2Proof.Machine.execStaAby a s
  | .staAbx a => Sys2Proof.Machine.execStaAbx a s
  | .stxZp0 z => Sys2Proof.Machine.execStxZp0 z s
  | .stxAbs a => Sys2Proof.Machine.execStxAbs a s
  | .stxZpy z => Sys2Proof.Machine.execStxZpy z s
  | .styZp0 z => Sys2Proof.Machine.execStyZp0 z s
  | .styAbs a => Sys2Proof.Machine.execStyAbs a s
  | .styZpx z => Sys2Proof.Machine.execStyZpx z s
  | .tax => Sys2Proof.Machine.execTax s
  | .tay => Sys2Proof.Machine.execTay s
  | .txa => Sys2Proof.Machine.execTxa s
  | .tya => Sys2Proof.Machine.execTya s
  | .tsx => Sys2Proof.Machine.execTsx s
  | .txs => Sys2Proof.Machine.execTxs s
  | .pha => Sys2Proof.Machine.execPha s
  | .php => Sys2Proof.Machine.execPhp s
  | .pla => Sys2Proof.Machine.execPla s
  | .plp => Sys2Proof.Machine.execPlp s
  | .andIzx z => Sys2Proof.Machine.execAndIzx z s
  | .andZp0 z => Sys2Proof.Machine.execAndZp0 z s
  | .andImm v => Sys2Proof.Machine.execAndImm v s
  | .andAbs a => Sys2Proof.Machine.execAndAbs a s
  | .andIzy z => Sys2Proof.Machine.execAndIzy z s
  | .andZpx z => Sys2Proof.Machine.execAndZpx z s
  | .andAby a => Sys2Proof.Machine.execAndAby a s
  | .andAbx a => Sys2Proof.Machine.execAndAbx a s
  | .oraIzx z => Sys2Proof.Machine.execOraIzx z s
  | .oraZp0 z => Sys2Proof.Machine.execOraZp0 z s
  | .oraImm v => Sys2Proof.Machine.execOraImm v s
  | .oraAbs a => Sys2Proof.Machine.execOraAbs a s
  | .oraIzy z => Sys2Proof.Machine.execOraIzy z s
  | .oraZpx z => Sys2Proof.Machine.execOraZpx z s
  | .oraAby a => Sys2Proof.Machine.execOraAby a s
  | .oraAbx a => Sys2Proof.Machine.execOraAbx a s
  | .eorIzx z => Sys2Proof.Machine.execEorIzx z s
  | .eorZp0 z => Sys2Proof.Machine.execEorZp0 z s
  | .eorImm v => Sys2Proof.Machine.execEorImm v s
  | .eorAbs a => Sys2Proof.Machine.execEorAbs a s
  | .eorIzy z => Sys2Proof.Machine.execEorIzy z s
  | .eorZpx z => Sys2Proof.Machine.execEorZpx z s
  | .eorAby a => Sys2Proof.Machine.execEorAby a s
  | .eorAbx a => Sys2Proof.Machine.execEorAbx a s
  | .bitZp0 z => Sys2Proof.Machine.execBitZp0 z s
  | .bitAbs a => Sys2Proof.Machine.execBitAbs a s
  | .adcIzx z => Sys2Proof.Machine.execAdcIzx z s
  | .adcZp0 z => Sys2Proof.Machine.execAdcZp0 z s
  | .adcImm v => Sys2Proof.Machine.execAdcImm v s
  | .adcAbs a => Sys2Proof.Machine.execAdcAbs a s
  | .adcIzy z => Sys2Proof.Machine.execAdcIzy z s
  | .adcZpx z => Sys2Proof.Machine.execAdcZpx z s
  | .adcAby a => Sys2Proof.Machine.execAdcAby a s
  | .adcAbx a => Sys2Proof.Machine.execAdcAbx a s
  | .sbcIzx z => Sys2Proof.Machine.execSbcIzx z s
  | .sbcZp0 z => Sys2Proof.Machine.execSbcZp0 z s
  | .sbcImm v => Sys2Proof.Machine.execSbcImm v s
  | .sbcAbs a => Sys2Proof.Machine.execSbcAbs a s
  | .sbcIzy z => Sys2Proof.Machine.execSbcIzy z s
  | .sbcZpx z => Sys2Proof.Machine.execSbcZpx z s
  | .sbcAby a => Sys2Proof.Machine.execSbcAby a s
  | .sbcAbx a => Sys2Proof.Machine.execSbcAbx a s
  | .cmpIzx z => Sys2Proof.Machine.execCmpIzx z s
  | .cmpZp0 z => Sys2Proof.Machine.execCmpZp0 z s
  | .cmpImm v => Sys2Proof.Machine.execCmpImm v s
  | .cmpAbs a => Sys2Proof.Machine.execCmpAbs a s
  | .cmpIzy z => Sys2Proof.Machine.execCmpIzy z s
  | .cmpZpx z => Sys2Proof.Machine.execCmpZpx z s
  | .cmpAby a => Sys2Proof.Machine.execCmpAby a s
  | .cmpAbx a => Sys2Proof.Machine.execCmpAbx a s
  | .cpxImm v => Sys2Proof.Machine.execCpxImm v s
  | .cpxZp0 z => Sys2Proof.Machine.execCpxZp0 z s
  | .cpxAbs a => Sys2Proof.Machine.execCpxAbs a s
  | .cpyImm v => Sys2Proof.Machine.execCpyImm v s
  | .cpyZp0 z => Sys2Proof.Machine.execCpyZp0 z s
  | .cpyAbs a => Sys2Proof.Machine.execCpyAbs a s
  | .incZp0 z => Sys2Proof.Machine.execIncZp0 z s
  | .incAbs a => Sys2Proof.Machine.execIncAbs a s
  | .incZpx z => Sys2Proof.Machine.execIncZpx z s
  | .incAbx a => Sys2Proof.Machine.execIncAbx a s
  | .decZp0 z => Sys2Proof.Machine.execDecZp0 z s
  | .decAbs a => Sys2Proof.Machine.execDecAbs a s
  | .decZpx z => Sys2Proof.Machine.execDecZpx z s
  | .decAbx a => Sys2Proof.Machine.execDecAbx a s
  | .inx => Sys2Proof.Machine.execInx s
  | .iny => Sys2Proof.Machine.execIny s
  | .dex => Sys2Proof.Machine.execDex s
  | .dey => Sys2Proof.Machine.execDey s
  | .aslZp0 z => Sys2Proof.Machine.execAslZp0 z s
  | .aslAcc => Sys2Proof.Machine.execAslAcc s
  | .aslAbs a => Sys2Proof.Machine.execAslAbs a s
  | .aslZpx z => Sys2Proof.Machine.execAslZpx z s
  | .aslAbx a => Sys2Proof.Machine.execAslAbx a s
  | .lsrZp0 z => Sys2Proof.Machine.execLsrZp0 z s
  | .lsrAcc => Sys2Proof.Machine.execLsrAcc s
  | .lsrAbs a => Sys2Proof.Machine.execLsrAbs a s
  | .lsrZpx z => Sys2Proof.Machine.execLsrZpx z s
  | .lsrAbx a => Sys2Proof.Machine.execLsrAbx a s
  | .rolZp0 z => Sys2Proof.Machine.execRolZp0 z s
  | .rolAcc => Sys2Proof.Machine.execRolAcc s
  | .rolAbs a => Sys2Proof.Machine.execRolAbs a s
  | .rolZpx z => Sys2Proof.Machine.execRolZpx z s
  | .rolAbx a => Sys2Proof.Machine.execRolAbx a s
  | .rorZp0 z => Sys2Proof.Machine.execRorZp0 z s
  | .rorAcc => Sys2Proof.Machine.execRorAcc s
  | .rorAbs a => Sys2Proof.Machine.execRorAbs a s
  | .rorZpx z => Sys2Proof.Machine.execRorZpx z s
  | .rorAbx a => Sys2Proof.Machine.execRorAbx a s
  | .jmpAbs a => Sys2Proof.Machine.execJmpAbs a s
  | .jmpInd p => Sys2Proof.Machine.execJmpInd p s
  | .jsrAbs a => Sys2Proof.Machine.execJsrAbs a s
  | .rts => Sys2Proof.Machine.execRts s
  | .bcc r => Sys2Proof.Machine.execBcc r s
  | .bcs r => Sys2Proof.Machine.execBcs r s
  | .beq r => Sys2Proof.Machine.execBeq r s
  | .bne r => Sys2Proof.Machine.execBne r s
  | .bmi r => Sys2Proof.Machine.execBmi r s
  | .bpl r => Sys2Proof.Machine.execBpl r s
  | .bvc r => Sys2Proof.Machine.execBvc r s
  | .bvs r => Sys2Proof.Machine.execBvs r s
  | .clc => Sys2Proof.Machine.execClc s
  | .sec => Sys2Proof.Machine.execSec s
  | .cli => Sys2Proof.Machine.execCli s
  | .sei => Sys2Proof.Machine.execSei s
  | .cld => Sys2Proof.Machine.execCld s
  | .sed => Sys2Proof.Machine.execSed s
  | .clv => Sys2Proof.Machine.execClv s
  | .nop => Sys2Proof.Machine.execNop s
  | .brk => Sys2Proof.Machine.execBrk s
  | .rti => Sys2Proof.Machine.execRti s
  | .ill02 => Sys2Proof.Machine.execIll02 s
  | .ill03 => Sys2Proof.Machine.execIll03 s
  | .ill04 => Sys2Proof.Machine.execIll04 s
  | .ill07 => Sys2Proof.Machine.execIll07 s
  | .ill0B => Sys2Proof.Machine.execIll0B s
  | .ill0C => Sys2Proof.Machine.execIll0C s
  | .ill0F => Sys2Proof.Machine.execIll0F s
  | .ill12 => Sys2Proof.Machine.execIll12 s
  | .ill13 => Sys2Proof.Machine.execIll13 s
  | .ill14 => Sys2Proof.Machine.execIll14 s
  | .ill17 => Sys2Proof.Machine.execIll17 s
  | .ill1A => Sys2Proof.Machine.execIll1A s
  | .ill1B => Sys2Proof.Machine.execIll1B s
  | .ill1C => Sys2Proof.Machine.execIll1C s
  | .ill1F => Sys2Proof.Machine.execIll1F s
  | .ill22 => Sys2Proof.Machine.execIll22 s
  | .ill23 => Sys2Proof.Machine.execIll23 s
  | .ill27 => Sys2Proof.Machine.execIll27 s
  | .ill2B => Sys2Proof.Machine.execIll2B s
  | .ill2F => Sys2Proof.Machine.execIll2F s
  | .ill32 => Sys2Proof.Machine.execIll32 s
  | .ill33 => Sys2Proof.Machine.execIll33 s
  | .ill34 => Sys2Proof.Machine.execIll34 s
  | .ill37 => Sys2Proof.Machine.execIll37 s
  | .ill3A => Sys2Proof.Machine.execIll3A s
  | .ill3B => Sys2Proof.Machine.execIll3B s
  | .ill3C => Sys2Proof.Machine.execIll3C s
  | .ill3F => Sys2Proof.Machine.execIll3F s
  | .ill42 => Sys2Proof.Machine.execIll42 s
  | .ill43 => Sys2Proof.Machine.execIll43 s
  | .ill44 => Sys2Proof.Machine.execIll44 s
  | .ill47 => Sys2Proof.Machine.execIll47 s
  | .ill4B => Sys2Proof.Machine.execIll4B s
  | .ill4F => Sys2Proof.Machine.execIll4F s
  | .ill52 => Sys2Proof.Machine.execIll52 s
  | .ill53 => Sys2Proof.Machine.execIll53 s
  | .ill54 => Sys2Proof.Machine.execIll54 s
  | .ill57 => Sys2Proof.Machine.execIll57 s
  | .ill5A => Sys2Proof.Machine.execIll5A s
  | .ill5B => Sys2Proof.Machine.execIll5B s
  | .ill5C => Sys2Proof.Machine.execIll5C s
  | .ill5F => Sys2Proof.Machine.execIll5F s
  | .ill62 => Sys2Proof.Machine.execIll62 s
  | .ill63 => Sys2Proof.Machine.execIll63 s
  | .ill64 => Sys2Proof.Machine.execIll64 s
  | .ill67 => Sys2Proof.Machine.execIll67 s
  | .ill6B => Sys2Proof.Machine.execIll6B s
  | .ill6F => Sys2Proof.Machine.execIll6F s
  | .ill72 => Sys2Proof.Machine.execIll72 s
  | .ill73 => Sys2Proof.Machine.execIll73 s
  | .ill74 => Sys2Proof.Machine.execIll74 s
  | .ill77 => Sys2Proof.Machine.execIll77 s
  | .ill7A => Sys2Proof.Machine.execIll7A s
  | .ill7B => Sys2Proof.Machine.execIll7B s
  | .ill7C => Sys2Proof.Machine.execIll7C s
  | .ill7F => Sys2Proof.Machine.execIll7F s
  | .ill80 => Sys2Proof.Machine.execIll80 s
  | .ill82 => Sys2Proof.Machine.execIll82 s
  | .ill83 => Sys2Proof.Machine.execIll83 s
  | .ill87 => Sys2Proof.Machine.execIll87 s
  | .ill89 => Sys2Proof.Machine.execIll89 s
  | .ill8B => Sys2Proof.Machine.execIll8B s
  | .ill8F => Sys2Proof.Machine.execIll8F s
  | .ill92 => Sys2Proof.Machine.execIll92 s
  | .ill93 => Sys2Proof.Machine.execIll93 s
  | .ill97 => Sys2Proof.Machine.execIll97 s
  | .ill9B => Sys2Proof.Machine.execIll9B s
  | .ill9C => Sys2Proof.Machine.execIll9C s
  | .ill9E => Sys2Proof.Machine.execIll9E s
  | .ill9F => Sys2Proof.Machine.execIll9F s
  | .illA3 => Sys2Proof.Machine.execIllA3 s
  | .illA7 => Sys2Proof.Machine.execIllA7 s
  | .illAB => Sys2Proof.Machine.execIllAB s
  | .illAF => Sys2Proof.Machine.execIllAF s
  | .illB2 => Sys2Proof.Machine.execIllB2 s
  | .illB3 => Sys2Proof.Machine.execIllB3 s
  | .illB7 => Sys2Proof.Machine.execIllB7 s
  | .illBB => Sys2Proof.Machine.execIllBB s
  | .illBF => Sys2Proof.Machine.execIllBF s
  | .illC2 => Sys2Proof.Machine.execIllC2 s
  | .illC3 => Sys2Proof.Machine.execIllC3 s
  | .illC7 => Sys2Proof.Machine.execIllC7 s
  | .illCB => Sys2Proof.Machine.execIllCB s
  | .illCF => Sys2Proof.Machine.execIllCF s
  | .illD2 => Sys2Proof.Machine.execIllD2 s
  | .illD3 => Sys2Proof.Machine.execIllD3 s
  | .illD4 => Sys2Proof.Machine.execIllD4 s
  | .illD7 => Sys2Proof.Machine.execIllD7 s
  | .illDA => Sys2Proof.Machine.execIllDA s
  | .illDB => Sys2Proof.Machine.execIllDB s
  | .illDC => Sys2Proof.Machine.execIllDC s
  | .illDF => Sys2Proof.Machine.execIllDF s
  | .illE2 => Sys2Proof.Machine.execIllE2 s
  | .illE3 => Sys2Proof.Machine.execIllE3 s
  | .illE7 => Sys2Proof.Machine.execIllE7 s
  | .illEB => Sys2Proof.Machine.execIllEB s
  | .illEF => Sys2Proof.Machine.execIllEF s
  | .illF2 => Sys2Proof.Machine.execIllF2 s
  | .illF3 => Sys2Proof.Machine.execIllF3 s
  | .illF4 => Sys2Proof.Machine.execIllF4 s
  | .illF7 => Sys2Proof.Machine.execIllF7 s
  | .illFA => Sys2Proof.Machine.execIllFA s
  | .illFB => Sys2Proof.Machine.execIllFB s
  | .illFC => Sys2Proof.Machine.execIllFC s
  | .illFF => Sys2Proof.Machine.execIllFF s

end Sys2Proof.Machine
end

