-- ==== Sys2Proof/Machine/Ppu.lean ====
section
/-! DEFINITION. The picture unit's raster state machine and its pipelines (62_ppu.md R360 to R402). The pipeline
functions take the picture unit and a function that reads the PPU address space; none of them changes what that
function depends on (nametables, palette, mask, cartridge). -/

namespace Sys2Proof.Machine

/-! ## Fields of CTRL and MASK (R343, R344) -/

def Ppu.spriteTable (u : Ppu) : Bool := u.ctrl.getLsbD 3
def Ppu.bgTable (u : Ppu) : Bool := u.ctrl.getLsbD 4
def Ppu.tallSprites (u : Ppu) : Bool := u.ctrl.getLsbD 5
def Ppu.nmiEnable (u : Ppu) : Bool := u.ctrl.getLsbD 7
def Ppu.bgLeft (u : Ppu) : Bool := u.mask.getLsbD 1
def Ppu.sprLeft (u : Ppu) : Bool := u.mask.getLsbD 2
def Ppu.renderBg (u : Ppu) : Bool := u.mask.getLsbD 3
def Ppu.renderSpr (u : Ppu) : Bool := u.mask.getLsbD 4

/-- "Rendering enabled" (R344). -/
def Ppu.rendering (u : Ppu) : Bool := u.renderBg || u.renderSpr

/-! ## Fields of the loopy register (R357) -/

def coarseX (v : BitVec 15) : BitVec 5 := v.extractLsb' 0 5
def coarseY (v : BitVec 15) : BitVec 5 := v.extractLsb' 5 5
def fineY (v : BitVec 15) : BitVec 3 := v.extractLsb' 12 3

/-! ## Background pipeline -/

/-- `LoadShifters()` (R366). -/
def Ppu.loadShifters (u : Ppu) : Ppu :=
  { u with
    bgLo := setField u.bgLo 0 u.ptLo, bgHi := setField u.bgHi 0 u.ptHi,
    bgAtLo := setField u.bgAtLo 0 (if u.atBits.getLsbD 0 then 0xFF#8 else 0),
    bgAtHi := setField u.bgAtHi 0 (if u.atBits.getLsbD 1 then 0xFF#8 else 0) }

/-- `FetchNT()` (R368). -/
def Ppu.fetchNT (u : Ppu) (rd : BitVec 14 → Byte) : Ppu :=
  { u with ntByte := rd (0x2000 ||| (u.v.extractLsb' 0 12).setWidth 14) }

/-- Address of the attribute byte of `v` (R369). -/
def attributeAddr (v : BitVec 15) : BitVec 14 :=
  0x23C0 ||| bitAt 14 (v.getLsbD 11) 11 ||| bitAt 14 (v.getLsbD 10) 10
    ||| ((coarseY v >>> 2).setWidth 14 <<< 3) ||| (coarseX v >>> 2).setWidth 14

/-- `FetchAT()` (R369). -/
def Ppu.fetchAT (u : Ppu) (rd : BitVec 14 → Byte) : Ppu :=
  let b := rd (attributeAddr u.v)
  let b := if (coarseY u.v).getLsbD 1 then b >>> 4 else b
  let b := if (coarseX u.v).getLsbD 1 then b >>> 2 else b
  { u with atBits := b.extractLsb' 0 2 }

/-- Address of the low pattern byte of the staged tile (R370). -/
def Ppu.patternAddr (u : Ppu) : BitVec 14 :=
  bitAt 14 u.bgTable 12 + (u.ntByte.setWidth 14 <<< 4) + (fineY u.v).setWidth 14

/-- `FetchPatternLo()` (R370). -/
def Ppu.fetchPatternLo (u : Ppu) (rd : BitVec 14 → Byte) : Ppu := { u with ptLo := rd u.patternAddr }

/-- `FetchPatternHi()` (R370). -/
def Ppu.fetchPatternHi (u : Ppu) (rd : BitVec 14 → Byte) : Ppu := { u with ptHi := rd (u.patternAddr + 8) }

/-- `IncX()` on the register (R371). -/
def incX (v : BitVec 15) : BitVec 15 :=
  if coarseX v = 31 then setBit (setField v 0 (0 : BitVec 5)) 10 (!v.getLsbD 10) else setField v 0 (coarseX v + 1)

/-- `IncY()` on the register (R372). -/
def incY (v : BitVec 15) : BitVec 15 :=
  if fineY v ≠ 7 then setField v 12 (fineY v + 1)
  else
    let v := setField v 12 (0 : BitVec 3)
    if coarseY v = 29 then setBit (setField v 5 (0 : BitVec 5)) 11 (!v.getLsbD 11)
    else if coarseY v = 31 then setField v 5 (0 : BitVec 5)
    else setField v 5 (coarseY v + 1)

/-- `TransferX()` on the registers (R373). -/
def transferX (v t : BitVec 15) : BitVec 15 := setField (setBit v 10 (t.getLsbD 10)) 0 (coarseX t)

/-- `TransferY()` on the registers (R374). -/
def transferY (v t : BitVec 15) : BitVec 15 :=
  setField (setBit (setField v 12 (fineY t)) 11 (t.getLsbD 11)) 5 (coarseY t)

/-! ## Sprites -/

/-- One slot of the sprite part of `Shift()`: count X down to the first column, then shift the planes (R382). -/
def Slot.shift (sl : Slot) : Slot :=
  if sl.x ≠ 0 then { sl with x := sl.x - 1 } else { sl with lo := sl.lo <<< 1, hi := sl.hi <<< 1 }

/-- `Shift()`: background (R367) and sprites (R382). -/
def Ppu.shift (u : Ppu) (d : Nat) : Ppu :=
  let u := if u.renderBg then
      { u with bgLo := u.bgLo <<< 1, bgHi := u.bgHi <<< 1, bgAtLo := u.bgAtLo <<< 1, bgAtHi := u.bgAtHi <<< 1 }
    else u
  if u.renderSpr ∧ d ≤ 257 then
    { u with slots := u.slots.mapIdx fun i sl => if i < u.spriteCount then sl.shift else sl }
  else u

/-- Sprite height (R380). -/
def Ppu.spriteHeight (u : Ppu) : Int := if u.tallSprites then 16 else 8

/-- The Y range of object-memory entry `n` covers scanline `line` (R380). -/
def Ppu.covers (u : Ppu) (line : Int) (n : Nat) : Bool :=
  let diff := line - ((Mem.read u.oam (4 * n)).toNat : Int)
  0 ≤ diff && diff < u.spriteHeight

/-- The slot of object-memory entry `n` (R358, R380). -/
def Ppu.slotOf (u : Ppu) (n : Nat) : Slot :=
  { y := Mem.read u.oam (4 * n), id := Mem.read u.oam (4 * n + 1), attr := Mem.read u.oam (4 * n + 2),
    x := Mem.read u.oam (4 * n + 3), lo := 0, hi := 0 }

/-- A slot without a sprite after evaluation (R380). -/
def Slot.empty : Slot := { y := 0xFF, id := 0xFF, attr := 0xFF, x := 0xFF, lo := 0, hi := 0 }

/-- `EvaluateSprites()`: the first eight entries, in object-memory order, whose Y range covers the line (R380). -/
def Ppu.evaluateSprites (u : Ppu) (line : Int) : Ppu :=
  let hits := (List.range 64).filter (u.covers line)
  { u with
    slots := Vector.ofFn fun i => match hits[i.val]? with
      | some n => u.slotOf n
      | none => Slot.empty
    spriteCount := min hits.length 8
    zeroPossible := u.covers line 0
    overflow := u.overflow || decide (8 < hits.length) }

/-- Pattern address of a sprite's row on scanline `line`, canonical flip polarity (R381, C9); 14-bit arithmetic
(log 12). -/
def Ppu.spriteAddr (u : Ppu) (sl : Slot) (line : Int) : BitVec 14 :=
  let row : BitVec 14 := BitVec.ofInt 14 (line - (sl.y.toNat : Int))
  let fv := sl.attr.getLsbD 7
  if u.tallSprites then
    let half := if fv then 1 - row >>> 3 else row >>> 3
    let r := if fv then 7 - (row &&& 7) else row &&& 7
    bitAt 14 (sl.id.getLsbD 0) 12 ||| (((sl.id &&& 0xFE).setWidth 14 + half) <<< 4) ||| r
  else
    let r := if fv then 7 - row else row
    bitAt 14 u.spriteTable 12 ||| (sl.id.setWidth 14 <<< 4) ||| r

/-- Fetch one sprite's pattern bytes, reversed under horizontal flip (R381). -/
def Ppu.fetchSprite (u : Ppu) (rd : BitVec 14 → Byte) (line : Int) (sl : Slot) : Slot :=
  let addr := u.spriteAddr sl line
  let lo := rd addr
  let hi := rd (addr + 8)
  if sl.attr.getLsbD 6 then { sl with lo := rev8 lo, hi := rev8 hi } else { sl with lo, hi }

/-- `FetchSprites()` (R381). -/
def Ppu.fetchSprites (u : Ppu) (rd : BitVec 14 → Byte) (line : Int) : Ppu :=
  { u with slots := u.slots.mapIdx fun i sl => if i < u.spriteCount then u.fetchSprite rd line sl else sl }

/-- `PreRenderClear()` (R401). -/
def Ppu.preRenderClear (u : Ppu) : Ppu :=
  { u with
    vblank := false, zeroHit := false, overflow := false,
    slots := u.slots.map fun sl => { sl with lo := 0, hi := 0 },
    spriteCount := 0, zeroPossible := false }

/-! ## The fetch sequence of one dot -/

/-- The eight-dot background sequence (R360, R365). -/
def Ppu.tileDot (u : Ppu) (rd : BitVec 14 → Byte) (d : Nat) (render : Bool) : Ppu :=
  match (d - 1) % 8 with
  | 0 => u.loadShifters.fetchNT rd
  | 2 => u.fetchAT rd
  | 4 => u.fetchPatternLo rd
  | 6 => u.fetchPatternHi rd
  | 7 => if render then { u with v := incX u.v } else u
  | _ => u

/-- Everything of R360 that happens on scanlines -1 to 239 but the pixel and the mapper's `Scanline()`, in the order of
its listing. -/
def Ppu.lineDot (u : Ppu) (rd : BitVec 14 → Byte) (line : Int) (d : Nat) (render : Bool) : Ppu :=
  let u := if line = -1 ∧ d = 1 then u.preRenderClear else u
  let u := if (2 ≤ d ∧ d ≤ 257) ∨ (321 ≤ d ∧ d ≤ 337) then (u.shift d).tileDot rd d render else u
  let u := if d = 256 ∧ render then { u with v := incY u.v } else u
  let u := if d = 257 then
      let u := u.loadShifters
      if render then { u with v := transferX u.v u.t } else u
    else u
  let u := if d = 338 ∨ d = 340 then u.fetchNT rd else u
  let u := if line = -1 ∧ 280 ≤ d ∧ d ≤ 304 ∧ render then { u with v := transferY u.v u.t } else u
  let u := if d = 257 ∧ 0 ≤ line then u.evaluateSprites line else u
  if d = 340 ∧ 0 ≤ line then u.fetchSprites rd line else u

/-! ## Compositing -/

/-- A pixel with its palette; `px = 0` is transparent. -/
structure Pixel where
  px  : BitVec 2
  pal : BitVec 3
deriving DecidableEq, Repr

/-- Two plane bits as a pixel value, `hi_bit ++ lo_bit` (R354). -/
def planeBits (hi lo : Bool) : BitVec 2 := BitVec.ofBool hi ++ BitVec.ofBool lo

/-- Background pixel (R390); `leftClip` is `PPU_LEFT_CLIP_OUTPUT` (log 8). -/
def Ppu.bgPixel (u : Ppu) (leftClip : Bool) (d : Nat) : Pixel :=
  if u.renderBg ∧ (¬leftClip ∨ u.bgLeft ∨ 9 ≤ d) then
    let k := 15 - u.fineX.toNat
    { px := planeBits (u.bgHi.getLsbD k) (u.bgLo.getLsbD k),
      pal := (planeBits (u.bgAtHi.getLsbD k) (u.bgAtLo.getLsbD k)).setWidth 3 }
  else { px := 0, pal := 0 }

/-- The leftmost pixel of a slot's planes. -/
def Slot.px (sl : Slot) : BitVec 2 := planeBits (sl.hi.getLsbD 7) (sl.lo.getLsbD 7)

/-- Foreground pixel, priority, and whether slot 0 drew it (R391). -/
structure Foreground where
  pixel     : Pixel
  front     : Bool
  zeroDrawn : Bool
deriving DecidableEq, Repr

/-- The first active, non-transparent sprite in slot order (R391). -/
def Ppu.fgPixel (u : Ppu) (leftClip : Bool) (d : Nat) : Foreground :=
  let transparent := { pixel := { px := 0, pal := 0 }, front := false, zeroDrawn := false }
  if u.renderSpr ∧ (¬leftClip ∨ u.sprLeft ∨ 9 ≤ d) then
    match (u.slots.toList.take u.spriteCount).zipIdx.find? (fun c => c.1.x == 0 && c.1.px != 0) with
    | some (sl, i) =>
      { pixel := { px := sl.px, pal := (sl.attr.extractLsb' 0 2).setWidth 3 + 4 },
        front := !sl.attr.getLsbD 5, zeroDrawn := i == 0 }
    | none => transparent
  else transparent

/-- The precedence table (R392). -/
def combine (bg : Pixel) (fg : Foreground) : Pixel :=
  if bg.px = 0 then
    if fg.pixel.px = 0 then { px := 0, pal := 0 } else fg.pixel
  else if fg.pixel.px = 0 then bg
  else if fg.front then fg.pixel else bg

/-- The sprite-zero hit is set in this dot (R393). -/
def Ppu.zeroHitNow (u : Ppu) (bg : Pixel) (fg : Foreground) (d : Nat) : Bool :=
  bg.px != 0 && fg.pixel.px != 0 && u.zeroPossible && fg.zeroDrawn && u.renderBg && u.renderSpr
    && ((u.bgLeft && u.sprLeft) || decide (9 ≤ d))

/-- PPU address of a pixel's palette entry (R394). -/
def Pixel.colourAddr (q : Pixel) : BitVec 14 := 0x3F00 + (q.pal.setWidth 14 <<< 2) + q.px.setWidth 14

/-- `Composite()`: background, foreground, precedence, sprite-zero hit, colour, output at `(dot - 1, scanline)` (R390 to
R395). The pixel kept is the 6-bit palette index (log 9). -/
def Ppu.composite (u : Ppu) (rd : BitVec 14 → Byte) (leftClip : Bool) (line : Int) (d : Nat) : Ppu :=
  let bg := u.bgPixel leftClip d
  let fg := u.fgPixel leftClip d
  let c := rd (combine bg fg).colourAddr &&& 0x3F
  { u with
    zeroHit := u.zeroHit || u.zeroHitNow bg fg d
    frame := Mem.write u.frame (256 * line.toNat + (d - 1)) c }

/-- The RGBA value of a frame pixel, through the uninterpreted palette (R331, R395). -/
def Ppu.rgbaAt (u : Ppu) (x y : Nat) : BitVec 32 :=
  Config.paletteRgba ((Mem.read u.frame (256 * y + x)).setWidth 6)

/-! ## The clock -/

/-- `StartVblank()` (R400). -/
def Ppu.startVblank (u : Ppu) : Ppu := { u with vblank := true, nmi := u.nmi || u.nmiEnable }

/-- `Advance()` (R362). -/
def Ppu.advance (u : Ppu) : Ppu :=
  if u.dot + 1 = 341 then
    if u.scanline + 1 = 261 then { u with dot := 0, scanline := -1, frameComplete := true }
    else { u with dot := 0, scanline := u.scanline + 1 }
  else { u with dot := u.dot + 1 }

/-- `Ppu.Clock()` but for the mapper's `Scanline()` (R360). -/
def Ppu.clock (u : Ppu) (rd : BitVec 14 → Byte) (leftClip : Bool) : Ppu :=
  let line := u.scanline
  let d := u.dot
  let render := u.rendering
  let u := if -1 ≤ line ∧ line ≤ 239 then u.lineDot rd line d render else u
  let u := if line = 241 ∧ d = 1 then u.startVblank else u
  let u := if 0 ≤ line ∧ line ≤ 239 ∧ 1 ≤ d ∧ d ≤ 256 then u.composite rd leftClip line d else u
  u.advance

/-- The mapper's `Scanline()` is called in this dot: dot 260 of scanlines -1 to 239, rendering enabled (R402). -/
def Ppu.scanlineDot (u : Ppu) : Bool := u.rendering && u.dot == 260 && decide (u.scanline ≤ 239)

/-- `Ppu.Clock()` (R360). -/
def State.ppuClock (s : State) : State :=
  { s with
    ppu := s.ppu.clock s.ppuRead s.params.leftClip
    cart := if s.ppu.scanlineDot then s.cart.map Cart.scanline else s.cart }

end Sys2Proof.Machine
end

