-- ==== Sys2Proof/Machine/Tick.lean ====
section
/-! DEFINITION. The parts of one bus step (61_bus.md R305): the CPU tick (10_state.md R40), the DMA slot (R312), audio
timing (R307), the interrupt polls (60_exceptions.md R263), and how an instruction word is put where the next step
fetches it. -/

namespace Sys2Proof.Machine

/-- Go on after a next state; stop as the outcome stops. -/
def andThen (o : Host.Outcome State Fault Refusal) (f : State → State) : Host.Outcome State Fault Refusal :=
  match o with
  | .next s => .next (f s)
  | .fault r => .fault r
  | .refused r => .refused r

/-- The decrement that ends every CPU tick (R40). -/
def State.countDown (s : State) : State := s.setCycles (s.cpu.cycles - 1)

/-- `Cpu.Clock()`: with `cycles = 0` a whole instruction, otherwise one count down (R40). -/
def State.cpuTick (s : State) : Host.Outcome State Fault Refusal :=
  if s.cpu.cycles = 0 then
    let f := s.fetch
    andThen (exec f.instr f.st) State.countDown
  else .next s.countDown

/-- `Complete()` (R41). -/
def State.complete (s : State) : Bool := s.cpu.cycles == 0

/-- `DmaStep()` (R312 to R315). -/
def State.dmaStep (s : State) : State :=
  if s.bus.dmaDummy then
    if s.bus.n % 2 = 1 then { s with bus := { s.bus with dmaDummy := false } } else s
  else if s.bus.n % 2 = 0 then
    let r := s.memRead (joinBytes s.bus.dmaPage s.bus.dmaAddr)
    { r.st with bus := { r.st.bus with dmaData := r.val } }
  else
    let next := s.bus.dmaAddr + 1
    { s with
      ppu := { s.ppu with oam := Mem.write s.ppu.oam s.bus.dmaAddr.toNat s.bus.dmaData }
      bus := { s.bus with
        dmaAddr := next
        dmaArmed := next != 0
        dmaDummy := next == 0 } }

/-- Every third step: a DMA slot while a transfer is armed, otherwise a CPU tick (R305). -/
def State.slot (s : State) : Host.Outcome State Fault Refusal :=
  if s.bus.n % 3 = 0 then
    if s.bus.dmaArmed then .next s.dmaStep else s.cpuTick
  else .next s

/-- `AudioTick()`: a sample is ready when `audio_time - t_sample`, the `rest`, is at least 0 (R307). -/
def State.audioTick (s : State) : State :=
  let time := s.bus.audioTime.plus 1 s.params.tStep
  let rest := time.plus (-1) s.params.tSample
  if rest.nonneg then
    { s with bus := { s.bus with audioTime := rest, sample := s.apu.outputSample, sampleReady := true } }
  else { s with bus := { s.bus with audioTime := time, sampleReady := false } }

/-- The NMI poll: clear the latch, deliver (R263, R305). -/
def State.pollNmi (s : State) : State :=
  if s.ppu.nmi then { s with ppu := { s.ppu with nmi := false } }.nmi else s

/-- The IRQ poll: clear the mapper's flag, deliver; skipped without a cartridge (R263, R274, R305, R309). -/
def State.pollIrq (s : State) : State :=
  match s.cart with
  | none => s
  | some c => if c.irqState then { s with cart := some c.irqClear }.irq else s

/-- `n <- n + 1` (R303). -/
def State.countStep (s : State) : State := { s with bus := { s.bus with n := s.bus.n + 1 } }

/-- `Apu.Clock()` on the state (R440). -/
def State.apuClock (s : State) : State := { s with apu := s.apu.clock }

/-- What comes before the CPU or DMA slot (R305, R306). -/
def State.beforeSlot (s : State) : State := s.ppuClock.apuClock

/-- What comes after it (R305). -/
def State.afterSlot (s : State) : State := s.audioTick.pollNmi.pollIrq.countStep

/-- `Bus.Clock()` (R305). -/
def State.busClock (s : State) : Host.Outcome State Fault Refusal := andThen s.beforeSlot.slot State.afterSlot

/-! ## Placing an instruction word -/

/-- A cartridge whose byte at CPU address `a` is `v`, if the address is PRG storage or cartridge RAM. -/
def Cart.withByte (c : Cart) (a : Addr) (v : Byte) : Option Cart :=
  match c.cpuMapRead a with
  | .notClaimed => none
  | .offset o => if o < c.prgSize then some { c with prg := Mem.write c.prg o v } else none
  | .direct _ => some (c.cpuWrite a v).cart

/-- A state whose byte at CPU address `a` is `v`, if the address is memory. -/
def State.withByte (s : State) (a : Addr) (v : Byte) : Option State :=
  if a.toNat < 0x2000 then some { s with bus := { s.bus with ram := Mem.write s.bus.ram (a.toNat % 0x800) v } }
  else match s.cart with
    | none => none
    | some c => (c.withByte a v).map fun c => { s with cart := some c }

/-- A state that holds `bs` from `a` on, if those addresses are memory. -/
def State.withBytes (s : State) (a : Addr) : List Byte → Option State
  | [] => some s
  | b :: bs => (s.withByte a b).bind fun t => t.withBytes (a + 1) bs

/-- A state whose next step is a CPU tick that fetches: a CPU slot, no transfer armed, no count-down left. -/
def State.readyToFetch (s : State) : State :=
  { s with
    cpu := { s.cpu with cycles := 0 }
    bus := { s.bus with
      n := s.bus.n - s.bus.n % 3, dmaArmed := false, dmaDummy := s.bus.dmaDummy || s.bus.dmaArmed } }

/-- Put three bytes where the next step fetches: at `PC` if that is memory, otherwise at 0x0000 with `PC` moved there
(log 18). -/
def State.placeInstruction (s : State) (bs : List Byte) : State :=
  let s := s.readyToFetch
  match s.withBytes s.cpu.pc bs with
  | some t => t
  | none => ((s.setPc 0).withBytes 0 bs).getD s

end Sys2Proof.Machine
end

