-- ==== Sys2Proof/Machine/Step.lean ====
section
/-! DEFINITION. One step of the machine is one bus step, `Bus.Clock()` (61_bus.md R305, R330: "the sole advancement
primitive"; log 4). -/

namespace Sys2Proof.Machine

def step : State → Host.Outcome State Fault Refusal := State.busClock

/-- `s` with the instruction word `w` of `nbits` bits (bit 0 the least significant bit of the first byte, bits above
`nbits` zero) stored where the next step fetches, and that next step made a fetching CPU tick (log 1, log 18). -/
def State.withFetchWord (s : State) (nbits w : Nat) : State :=
  let w := w % 2 ^ nbits
  s.placeInstruction [BitVec.ofNat 8 w, BitVec.ofNat 8 (w / 256), BitVec.ofNat 8 (w / 65536)]

end Sys2Proof.Machine
end

