-- ==== Sys2Proof/Machine/HostCalls.lean ====
section
/-! DEFINITION. What the host may do between bus steps (61_bus.md R330 to R335), beside calling `Clock()`: reset,
cartridge insertion and loading, the controller bytes, the sample-rate configuration, taking the frame. Reading through
the read-only path is `State.cpuPeek`. -/

namespace Sys2Proof.Machine

/-- The host's entry points (R330). -/
inductive HostCall where
  /-- `Reset()` (R304). -/
  | reset
  /-- `InsertCartridge()` (R308). -/
  | insertCartridge (c : Cart)
  /-- Load an image and insert the cartridge; `none` is a file that cannot be read (R334, R493; log 14). -/
  | loadImage (image : Option (List Byte))
  /-- Write the controller bytes of both ports (R333). -/
  | setControllers (port0 port1 : Byte)
  /-- Configure the sample rate: two positive reals (R307; log 6). That it changes the two times alone, neither clearing nor rescaling the
  accumulator, is DESIGN CHOICE: the spec is silent (log 21). -/
  | setSampleRatio (tStep tSample : HostReal)
  /-- Clear `frame_complete` after presenting the frame (R331, D38). -/
  | frameTaken
deriving DecidableEq, Repr

/-- `InsertCartridge()` changes the cartridge reference and nothing else (R308). -/
def State.insertCartridge (s : State) (c : Cart) : State := { s with cart := some c }

/-- The effect of a host call (R308, R331, R333, R334, R493). -/
def State.hostCall (s : State) : HostCall → State
  | .reset => s.busReset
  | .insertCartridge c => s.insertCartridge c
  | .loadImage none => s
  | .loadImage (some image) =>
    match Cart.build s.params.cartRamInit image with
    | some c => s.insertCartridge c
    | none => { s with cart := none }
  | .setControllers p0 p1 => { s with bus := { s.bus with padIn0 := p0, padIn1 := p1 } }
  | .setSampleRatio tStep tSample => { s with params := { s.params with tStep, tSample } }
  | .frameTaken => { s with ppu := { s.ppu with frameComplete := false } }

end Sys2Proof.Machine
end

