-- ==== Sys2Proof/Safety.lean ====
section
/-! DEFINITION. What counts as a safe run: every step answers a next state, and every state of the run meets the
machine's invariant. -/

namespace Sys2Proof.Machine

/-- A mapper in a state its registers can hold (64_cartridge.md R510, R530): variant 1's bit count is 0 to 4, cartridge
RAM is in canonical form, and variant 4's IRQ flag is down between bus steps (R536). -/
def Mapper.Inv : Mapper → Prop
  | .v0 | .v2 _ | .v3 _ => True
  | .v1 m => m.count ≤ 4 ∧ Mem.wf 8192 m.ram
  | .v4 m => m.irqActive = false ∧ Mem.wf 8192 m.ram

/-- The number of a mapper variant (R484). -/
def Mapper.variant : Mapper → Nat
  | .v0 => 0
  | .v1 _ => 1
  | .v2 _ => 2
  | .v3 _ => 3
  | .v4 _ => 4

/-- A cartridge whose storage is in canonical form and whose mapper is the one of its ID. -/
structure Cart.Inv (c : Cart) : Prop where
  prg    : Mem.wf c.prgSize c.prg
  chr    : Mem.wf c.chrSize c.chr
  mapper : c.mapper.Inv
  id     : c.mapperId.toNat = c.mapper.variant

/-- Arguments of the machine as the spec admits them (00_scope.md R6): the audio unit restarts at the first of its six
steps, inside its sequence, with a noise register that is not zero (63_apu.md R440, R441, R458), and `CART_RAM_INIT` is
8192 bytes in canonical form. The costs of `ILLEGAL_CYCLES` are 1 to 8 by their type. -/
structure Params.Inv (q : Params) : Prop where
  tick6    : q.apuReset.tick6 = 0
  frameCtr : q.apuReset.frameCtr < 14916
  lfsr     : q.apuReset.noise.lfsr ≠ 0
  cartRam  : Mem.wf 8192 q.cartRamInit

/-- The invariant of the machine between bus steps. -/
structure State.Inv (s : State) : Prop where
  /-- Live `P.U` is 1 and live `P.B` is 0 (10_state.md R27). -/
  statusU : flagU s.cpu.p = true
  statusB : flagB s.cpu.p = false
  /-- The longest cost is 8 (R110, R271). -/
  cycles : s.cpu.cycles ≤ 8
  /-- Every memory is in canonical form inside its size. -/
  ram   : Mem.wf 2048 s.bus.ram
  oam   : Mem.wf 256 s.ppu.oam
  nt    : Mem.wf 2048 s.ppu.nt
  pal   : Mem.wf 32 s.ppu.pal
  frame : Mem.wf (256 * 240) s.ppu.frame
  cart  : ∀ c, s.cart = some c → c.Inv
  /-- The raster position is on the raster (62_ppu.md R360). -/
  scanlineLow  : -1 ≤ s.ppu.scanline
  scanlineHigh : s.ppu.scanline ≤ 260
  dot : s.ppu.dot ≤ 340
  sprites : s.ppu.spriteCount ≤ 8
  /-- The NMI latch is consumed in the bus step that raises it (61_bus.md R305). -/
  nmi : s.ppu.nmi = false
  /-- The audio tick falls on bus steps with `n mod 6 = 0` (63_apu.md R440). -/
  tick6 : s.apu.tick6 = s.bus.n % 6
  frameCtr : s.apu.frameCtr < 14916
  /-- The noise register is never all zero (63_apu.md R458). -/
  lfsr : s.apu.noise.lfsr ≠ 0
  /-- The audio timing accumulator is a sum in canonical form, at least 0 (61_bus.md R307). -/
  audioTime : s.bus.audioTime.wf
  audioTimeNonneg : s.bus.audioTime.nonneg = true
  /-- `dma_dummy` rests at true whenever no transfer is armed (61_bus.md R304). -/
  dmaRest : s.bus.dmaArmed = false → s.bus.dmaDummy = true
  /-- The arguments are those the spec admits (00_scope.md R6). -/
  params : s.params.Inv

/-- A step from `s` goes on. -/
def State.goesOn (s : State) : Prop := ∃ t, step s = .next t

end Sys2Proof.Machine
end

