-- ==== Sys2Proof/Certificates/Slice0/Obligations.lean ====
section
/-! DEFINITION. What this model is claimed to satisfy, for the provers. First the words the statements use, then one
`def Obligations.<Name> : Prop` each. `exec` runs an instruction after its bytes were fetched, so `s.cpu.pc` in a
statement about `exec` is the address after the instruction (40_addressing_modes.md R130). -/

namespace Sys2Proof.Stated

open Sys2Proof.Machine

/-- `p` has these six flags, and bits B and U as they were in `old` (10_state.md R26, R28). -/
def FlagsAre (p old : Byte) (n v d i z c : Bool) : Prop :=
  flagN p = n ∧ flagV p = v ∧ flagD p = d ∧ flagI p = i ∧ flagZ p = z ∧ flagC p = c
    ∧ flagB p = flagB old ∧ flagU p = flagU old

/-- `SetZN(r)` on `old` (00_scope.md R9): N and Z from `r`, everything else as it was. -/
def ZNOf (r p old : Byte) : Prop :=
  FlagsAre p old (r.getLsbD 7) (flagV old) (flagD old) (flagI old) (decide (r.toNat = 0)) (flagC old)

/-- The encodings of a mnemonic, as `(opcode byte, format, base cycles)`: every instruction of the mnemonic has one of
them, and each of the opcode bytes decodes to an instruction of the mnemonic. -/
def EncodedAs (mn : Mnem) (rows : List (Byte × Format × Nat)) : Prop :=
  (∀ i : Instr, i.line.mnem = mn →
    (i.opcode, i.line.mode.format, i.baseCycles) ∈ rows ∧ (encode i).head? = some i.opcode)
  ∧ ∀ r ∈ rows, ∀ b1 b2 : Byte, ∃ i tail, decode [r.1, b1, b2] = .ok (i, tail) ∧ i.line.mnem = mn ∧ i.opcode = r.1

/-- Running `i` on `s` completes in `t p` for some status `p` of which `post` holds. -/
def Completes (i : Instr) (s : State) (t : Byte → State) (post : Byte → Prop) : Prop :=
  ∃ p, exec i s = .next (t p) ∧ post p

/-- The cost of an instruction whose operation can use the extra cycle of a page crossing (30_encoding.md R115). -/
def costOf (i : Instr) (s : State) : Nat := i.baseCycles + if (s.source i.line.mode).crossed then 1 else 0

/-- `i` reads its operand `M` once and writes `A <- f M` with flags of `post M`; nothing else changes but what the
reads changed. -/
def AccumulatorGets (i : Instr) (s : State) (f : Byte → Byte) : Prop :=
  let o := s.source i.line.mode
  Completes i s (fun p => { o.st with cpu := { s.cpu with a := f o.val, p := p, cycles := costOf i s } })
    fun p => ZNOf (f o.val) p s.cpu.p

/-- `i` stores `v` at its effective address, reading nothing there, and changes nothing else of the CPU. -/
def StoresByte (i : Instr) (s : State) (v : Byte) : Prop :=
  ∃ m, i.line.mode = .mem m ∧
    exec i s = .next { (s.locate m).st.memWrite (s.locate m).ea v with
      cpu := { s.cpu with cycles := i.baseCycles } }

/-- `i` reads the byte `M` at its effective address once, writes `f M` there once, and changes the status to one of
which `post M` holds; nothing else of the CPU changes. -/
def ModifiesByte (i : Instr) (s : State) (f : Byte → Byte) (post : Byte → Byte → Prop) : Prop :=
  ∃ m, i.line.mode = .mem m ∧
    let l := s.locate m
    let r := l.st.memRead l.ea
    Completes i s
      (fun p => { r.st.memWrite l.ea (f r.val) with cpu := { s.cpu with p := p, cycles := i.baseCycles } })
      (post r.val)

/-- The same on `A`. -/
def ModifiesA (i : Instr) (s : State) (f : Byte → Byte) (post : Byte → Byte → Prop) : Prop :=
  i.line.mode = .acc ∧
    Completes i s (fun p => { s with cpu := { s.cpu with a := f s.cpu.a, p := p, cycles := i.baseCycles } })
      (post s.cpu.a)

/-- What a shift or rotate makes of `m` with the old carry `c`: the result and the new carry, as numbers
(45_incdec_shift.md R206 to R209). -/
def ShiftIs (mn : Mnem) (m : Byte) (c : Bool) (r : Byte) (out : Bool) : Prop :=
  match mn with
  | .asl => r.toNat = 2 * m.toNat % 256 ∧ out = decide (128 ≤ m.toNat)
  | .lsr => r.toNat = m.toNat / 2 ∧ out = decide (m.toNat % 2 = 1)
  | .rol => r.toNat = (2 * m.toNat + c.toNat) % 256 ∧ out = decide (128 ≤ m.toNat)
  | .ror => r.toNat = m.toNat / 2 + 128 * c.toNat ∧ out = decide (m.toNat % 2 = 1)
  | _ => False

/-- `p` after a shift with result `r` and carry out `out`: C, Z, N. -/
def ShiftFlags (r : Byte) (out : Bool) (p old : Byte) : Prop :=
  FlagsAre p old (r.getLsbD 7) (flagV old) (flagD old) (flagI old) (decide (r.toNat = 0)) out

/-- `Compare(R, M)` (44_arith.md R196). -/
def ComparedTo (r m p old : Byte) : Prop :=
  FlagsAre p old ((r - m).getLsbD 7) (flagV old) (flagD old) (flagI old) (decide (r = m)) (decide (m.toNat ≤ r.toNat))

/-- A byte of the stack page of system RAM (20_memory.md R86). -/
def stackByte (s : State) (sp : Byte) : Byte := Mem.read s.bus.ram (0x100 + sp.toNat)

/-- The stack page after pushing bytes from `sp` down. -/
def pushed (ram : Mem) (sp : Byte) : List Byte → Mem
  | [] => ram
  | b :: bs => pushed (Mem.write ram (0x100 + sp.toNat) b) (sp - 1) bs

/-- The 16-bit pointer at a CPU address, read without side effects. -/
def wordAt (s : State) (a : Addr) : Addr := joinBytes (s.cpuPeek (a + 1)) (s.cpuPeek a)

/-- A taken branch's target: the signed offset from the address after the branch (40_addressing_modes.md R141). -/
def branchTarget (s : State) (r : Byte) : Addr := BitVec.ofInt 16 ((s.cpu.pc.toNat : Int) + r.toInt)

/-- `Branch(cond)` (46_control.md R226). -/
def BranchesWhen (i : Instr) (s : State) (r : Byte) (cond : Bool) : Prop :=
  let target := branchTarget s r
  exec i s = .next (if cond then
      { s with cpu := { s.cpu with
          pc := target, cycles := if target.toNat / 256 = s.cpu.pc.toNat / 256 then 3 else 4 } }
    else { s with cpu := { s.cpu with cycles := 2 } })

/-- Everything that differs between `s` and `t`, beside CPU registers, is what CPU-side reads of the registers with
read effects may change (20_memory.md R75): STATUS clears `vblank` and `w`, DATA moves `v` and the buffer, the
controllers shift. -/
def OnlyReadEffects (s t : State) : Prop :=
  t.bus = { s.bus with padShift0 := t.bus.padShift0, padShift1 := t.bus.padShift1 }
    ∧ t.ppu = { s.ppu with vblank := t.ppu.vblank, w := t.ppu.w, dataBuf := t.ppu.dataBuf, v := t.ppu.v }
    ∧ t.apu = s.apu ∧ t.cart = s.cart ∧ t.params = s.params

/-- The CPU addresses an instruction stores to: its effective address, or the stack bytes it pushes. -/
def storedTo (i : Instr) (s : State) : List Addr :=
  match i.line.mnem, i.line.mode with
  | .sta, .mem m | .stx, .mem m | .sty, .mem m | .inc, .mem m | .dec, .mem m
  | .asl, .mem m | .lsr, .mem m | .rol, .mem m | .ror, .mem m => [(s.locate m).ea]
  | .pha, _ | .php, _ => [stackAddr s.cpu.sp]
  | .jsr, _ => [stackAddr s.cpu.sp, stackAddr (s.cpu.sp - 1)]
  | .brk, _ => [stackAddr s.cpu.sp, stackAddr (s.cpu.sp - 1), stackAddr (s.cpu.sp - 2)]
  | _, _ => []

/-- A write at CPU address `a` may change what is read at `b`: the four mirrors of a RAM byte (R65), the device
registers of one window, the same byte of cartridge RAM, or the bank windows from 0x8000 on (64_cartridge.md R540).
A write from 0x4018 to 0x5FFF changes nothing. -/
def mayChange (a b : Addr) : Prop :=
  (a.toNat < 0x2000 ∧ b.toNat < 0x2000 ∧ a.toNat % 0x800 = b.toNat % 0x800)
    ∨ (0x2000 ≤ a.toNat ∧ a.toNat < 0x4018 ∧ 0x2000 ≤ b.toNat ∧ b.toNat < 0x4018)
    ∨ (0x6000 ≤ a.toNat ∧ a.toNat < 0x8000 ∧ a = b)
    ∨ (0x8000 ≤ a.toNat ∧ 0x8000 ≤ b.toNat)

/-- The instructions that write `A` (10_state.md R20). -/
def writesA (i : Instr) : Bool :=
  i.line.mode == .acc || [.lda, .txa, .tya, .pla, .and, .ora, .eor, .adc, .sbc].contains i.line.mnem
def writesX (m : Mnem) : Bool := [Mnem.ldx, .tax, .tsx, .inx, .dex].contains m
def writesY (m : Mnem) : Bool := [Mnem.ldy, .tay, .iny, .dey].contains m
def writesSP (m : Mnem) : Bool := [Mnem.txs, .pha, .php, .pla, .plp, .jsr, .rts, .brk, .rti].contains m
def writesPC (m : Mnem) : Bool :=
  [Mnem.jmp, .jsr, .rts, .bcc, .bcs, .beq, .bne, .bmi, .bpl, .bvc, .bvs, .brk, .rti].contains m

/-- The columns of the flag table (10_state.md R28). -/
def writesNZ (m : Mnem) : Bool :=
  [Mnem.adc, .sbc, .and, .ora, .eor, .lda, .ldx, .ldy, .inc, .dec, .inx, .iny, .dex, .dey, .tax, .tay, .txa, .tya,
   .tsx, .pla, .asl, .lsr, .rol, .ror, .cmp, .cpx, .cpy, .bit, .plp, .rti].contains m
def writesV (m : Mnem) : Bool := [Mnem.adc, .sbc, .bit, .clv, .plp, .rti].contains m
def writesD (m : Mnem) : Bool := [Mnem.cld, .sed, .plp, .rti].contains m
def writesI (m : Mnem) : Bool := [Mnem.cli, .sei, .plp, .rti, .brk].contains m
def writesC (m : Mnem) : Bool :=
  [Mnem.adc, .sbc, .asl, .lsr, .rol, .ror, .cmp, .cpx, .cpy, .clc, .sec, .plp, .rti].contains m

/-- The first `k` bytes from `PC` on, read one after another with `PC` moving past each (10_state.md R40,
30_encoding.md R102), and the state after them. -/
def takeBytes : Nat → State → List Byte × State
  | 0, s => ([], s)
  | k + 1, s =>
    let r := s.fetchByte
    let rest := takeBytes k r.st
    (r.val :: rest.1, rest.2)

/-- `k` CPU ticks. -/
def ticks : Nat → State → Host.Outcome State Fault Refusal
  | 0, s => .next s
  | k + 1, s => match s.cpuTick with
    | .next t => ticks k t
    | .fault r => .fault r
    | .refused r => .refused r

/-- Neither the picture unit nor the mapper can interrupt: NMI disabled and no latch, no IRQ enabled or pending. -/
def NoInterrupts (s : State) : Prop :=
  s.ppu.ctrl.getLsbD 7 = false ∧ s.ppu.nmi = false ∧
    ∀ c m, s.cart = some c → c.mapper = .v4 m → m.irqEnable = false ∧ m.irqActive = false

/-- The raster position as one number, 0 at the start of the pre-render line (62_ppu.md R360). -/
def rasterPos (s : State) : Int := (s.ppu.scanline + 1) * 341 + s.ppu.dot

/-- `(scanline, dot)` is on the raster (R360). -/
def OnRaster (s : State) : Prop := -1 ≤ s.ppu.scanline ∧ s.ppu.scanline ≤ 260 ∧ s.ppu.dot ≤ 340

/-- One turn of the loop of `EvaluateSprites()` (62_ppu.md R380), for entry `n` of object memory, the bytes `Y`, `ID`,
`attr`, `X` at `4n` (R358), with bit 5 of CTRL the sprite size (R343); `found` counts qualifying entries. -/
def evaluateEntry (u : Ppu) (line : Int) (acc : List Slot × Bool × Nat) (n : Nat) : List Slot × Bool × Nat :=
  let (slots, zero, found) := acc
  let byte := fun k : Nat => Mem.read u.oam (4 * n + k)
  let row := line - ((byte 0).toNat : Int)
  if 0 ≤ row ∧ row < (if u.ctrl.getLsbD 5 then 16 else 8) then
    if slots.length < 8 then
      (slots ++ [{ y := byte 0, id := byte 1, attr := byte 2, x := byte 3, lo := 0, hi := 0 }], zero || n == 0, found + 1)
    else (slots, zero, found + 1)
  else acc

/-- The fields of a scroll register (62_ppu.md R357). -/
structure Scroll where
  fineY   : Nat
  tableY  : Nat
  tableX  : Nat
  coarseY : Nat
  coarseX : Nat
deriving DecidableEq, Repr

def scrollOf (v : BitVec 15) : Scroll :=
  { fineY := v.toNat / 4096, tableY := v.toNat / 2048 % 2, tableX := v.toNat / 1024 % 2, coarseY := v.toNat / 32 % 32,
    coarseX := v.toNat % 32 }

/-- `IncX()` (62_ppu.md R371). -/
def Scroll.nextX (q : Scroll) : Scroll :=
  if q.coarseX = 31 then { q with coarseX := 0, tableX := 1 - q.tableX } else { q with coarseX := q.coarseX + 1 }

/-- `IncY()` (62_ppu.md R372). -/
def Scroll.nextY (q : Scroll) : Scroll :=
  if q.fineY < 7 then { q with fineY := q.fineY + 1 }
  else if q.coarseY = 29 then { q with fineY := 0, coarseY := 0, tableY := 1 - q.tableY }
  else if q.coarseY = 31 then { q with fineY := 0, coarseY := 0 }
  else { q with fineY := 0, coarseY := q.coarseY + 1 }

/-- Rendering is enabled (62_ppu.md R344). -/
abbrev renders (u : Ppu) : Prop := u.mask.getLsbD 3 = true ∨ u.mask.getLsbD 4 = true

/-- The raster stands on scanlines -1 to 239, on which the pipelines run (62_ppu.md R360, R361). -/
abbrev OnLine (u : Ppu) : Prop := -1 ≤ u.scanline ∧ u.scanline ≤ 239

/-- The raster stands on scanlines 0 to 239. -/
abbrev OnPicture (u : Ppu) : Prop := 0 ≤ u.scanline ∧ u.scanline ≤ 239

/-- The dots of the eight-dot fetch sequence (62_ppu.md R360). -/
abbrev Fetches (u : Ppu) : Prop := OnLine u ∧ ((2 ≤ u.dot ∧ u.dot ≤ 257) ∨ (321 ≤ u.dot ∧ u.dot ≤ 337))

/-- `v` goes from `u` to `e` in one dot: with rendering enabled, `IncX()` at the eighth dot of each fetch sequence and
`IncY()` after it at dot 256, `TransferX()` at dot 257, `TransferY()` at dots 280 to 304 of the pre-render line; otherwise
it stays (62_ppu.md R360, R371 to R374). -/
def ScrollMoves (u e : Ppu) : Prop :=
  let q := scrollOf u.v
  let t := scrollOf u.t
  (renders u → Fetches u → u.dot % 8 = 0 → u.dot ≠ 256 → scrollOf e.v = q.nextX)
  ∧ (renders u → OnLine u → u.dot = 256 → scrollOf e.v = q.nextX.nextY)
  ∧ (renders u → OnLine u → u.dot = 257 → scrollOf e.v = { q with tableX := t.tableX, coarseX := t.coarseX })
  ∧ (renders u → u.scanline = -1 → 280 ≤ u.dot → u.dot ≤ 304 →
      scrollOf e.v = { t with tableX := q.tableX, coarseX := q.coarseX })
  ∧ (¬(renders u ∧ OnLine u ∧ ((Fetches u ∧ u.dot % 8 = 0) ∨ u.dot = 257
        ∨ (u.scanline = -1 ∧ 280 ≤ u.dot ∧ u.dot ≤ 304))) → e.v = u.v)

/-- The background registers go from `u` to `e` in one dot: the shift registers double while the background is rendered,
and the first dot of a fetch sequence puts the staged tile in their low bytes; that dot and dots 338 and 340 stage the
nametable byte, the third, fifth and seventh the attribute bits and the two pattern bytes (62_ppu.md R360, R366 to R370,
R375). -/
def BackgroundMoves (u : Ppu) (rd : BitVec 14 → Byte) (e : Ppu) : Prop :=
  let q := scrollOf u.v
  let read := fun a : Nat => (rd (BitVec.ofNat 14 a)).toNat
  let step := fun k : Nat => Fetches u ∧ u.dot % 8 = k
  let tile := 4096 * (u.ctrl.getLsbD 4).toNat + 16 * u.ntByte.toNat + q.fineY
  let moved := fun (old new : BitVec 16) (staged : Nat) =>
    let shifted := if u.mask.getLsbD 3 = true then 2 * old.toNat % 65536 else old.toNat
    (step 1 → new.toNat = shifted / 256 * 256 + staged)
    ∧ (Fetches u → ¬step 1 → new.toNat = shifted)
    ∧ (¬Fetches u → new = old)
  moved u.bgLo e.bgLo u.ptLo.toNat ∧ moved u.bgHi e.bgHi u.ptHi.toNat
  ∧ moved u.bgAtLo e.bgAtLo (255 * (u.atBits.getLsbD 0).toNat)
  ∧ moved u.bgAtHi e.bgAtHi (255 * (u.atBits.getLsbD 1).toNat)
  ∧ (let fetch := step 1 ∨ (OnLine u ∧ (u.dot = 338 ∨ u.dot = 340))
     (fetch → e.ntByte.toNat = read (0x2000 + u.v.toNat % 4096)) ∧ (¬fetch → e.ntByte = u.ntByte))
  ∧ (let byte := read (0x23C0 + 2048 * q.tableY + 1024 * q.tableX + 8 * (q.coarseY / 4) + q.coarseX / 4)
     (step 3 → e.atBits.toNat = byte / 16 ^ (q.coarseY / 2 % 2) / 4 ^ (q.coarseX / 2 % 2) % 4)
     ∧ (¬step 3 → e.atBits = u.atBits))
  ∧ (step 5 → e.ptLo.toNat = read tile) ∧ (¬step 5 → e.ptLo = u.ptLo)
  ∧ (step 7 → e.ptHi.toNat = read (tile + 8)) ∧ (¬step 7 → e.ptHi = u.ptHi)

/-- `FetchSprites()` on one slot whose row `scanline - y` is in the sprite: the two pattern bytes of that row, taken from
below with the vertical flip, each reversed with the horizontal flip (62_ppu.md R381). -/
def SpriteFetched (u : Ppu) (rd : BitVec 14 → Byte) (old new : Slot) : Prop :=
  let tall := u.ctrl.getLsbD 5 = true
  let row := (u.scanline - (old.y.toNat : Int)).toNat
  let flip := old.attr.getLsbD 7 = true
  let id := old.id.toNat
  let line := if flip then 7 - row % 8 else row % 8
  let half := if flip then 1 - row / 8 else row / 8
  let addr := if tall then 4096 * (id % 2) + 16 * (id / 2 * 2 + half) + line
    else 4096 * (u.ctrl.getLsbD 3).toNat + 16 * id + line
  let plane := fun (b : Byte) (a : Nat) => ∀ k < 8,
    b.getLsbD k = (rd (BitVec.ofNat 14 a)).getLsbD (if old.attr.getLsbD 6 = true then 7 - k else k)
  plane new.lo addr ∧ plane new.hi (addr + 8)

/-- The sprite slots go from `u` to `e` in one dot: planes cleared at (-1, 1); while sprites are rendered, dots 2 to 257
count the X of each selected sprite down to 0 and then shift its planes; evaluation at dot 257 and the fetch at dot 340 of
the picture's lines (62_ppu.md R360, R380 to R382, R401). For a row outside the sprite see log 12. -/
def SpritesMove (u : Ppu) (rd : BitVec 14 → Byte) (e : Ppu) : Prop :=
  ∀ i : Fin 8,
    let old := u.slots[i]
    let new := e.slots[i]
    let selected := i.val < u.spriteCount
    let row := u.scanline - (old.y.toNat : Int)
    let double := fun b : Byte => (BitVec.ofNat 8 (2 * b.toNat) : Byte)
    let shifts := OnLine u ∧ 2 ≤ u.dot ∧ (u.dot ≤ 256 ∨ (u.dot = 257 ∧ u.scanline = -1))
      ∧ u.mask.getLsbD 4 = true ∧ selected
    let evaluates := OnPicture u ∧ u.dot = 257
    let fetches := OnPicture u ∧ u.dot = 340 ∧ selected
    (u.scanline = -1 → u.dot = 1 → new = { old with lo := 0, hi := 0 })
    ∧ (shifts → 0 < old.x.toNat → new = { old with x := BitVec.ofNat 8 (old.x.toNat - 1) })
    ∧ (shifts → old.x.toNat = 0 → new = { old with lo := double old.lo, hi := double old.hi })
    ∧ (evaluates → new = (u.evaluateSprites u.scanline).slots[i])
    ∧ (fetches → new = { old with lo := new.lo, hi := new.hi })
    ∧ (fetches → 0 ≤ row → row < (if u.ctrl.getLsbD 5 then 16 else 8) → SpriteFetched u rd old new)
    ∧ (¬(u.scanline = -1 ∧ u.dot = 1) → ¬shifts → ¬evaluates → ¬fetches → new = old)

/-- The eight bits of a controller byte read one by one from a port: the most significant first, then zeros. -/
def padStream (b : Byte) (k : Nat) : Byte := if k < 8 ∧ b.getLsbD (7 - k) then 1 else 0

/-- `k` reads of a CPU address, dropping the bytes. -/
def readTimes (a : Addr) : Nat → State → State
  | 0, s => s
  | k + 1, s => readTimes a k (s.memRead a).st

/-- Five writes to variant 1's serial register, the `k`th of byte `d k` at `a k` (64_cartridge.md R513). -/
def serialWrites (m : Mapper1) (prgBanks : Byte) (a : Fin 5 → Addr) (d : Fin 5 → Byte) : Mapper1 :=
  (List.finRange 5).foldl (fun m k => m.serialWrite prgBanks (a k) (d k)) m

/-- The value of a mapper after a CPU write of `d` to `a`, from 0x8000 on, which it does not claim: the write tables of
variants 0, 2, 3 and 4 (64_cartridge.md R500, R522, R527, R533), and variant 1's serial write (R513). -/
def mapperAfterWrite (c : Cart) (a : Addr) (d : Byte) : Mapper :=
  match c.mapper with
  | .v0 => .v0
  | .v1 m => .v1 (m.serialWrite c.prgBanks a d)
  | .v2 m => .v2 { prgLo := BitVec.ofNat 4 (d.toNat % 16), prgHi := m.prgHi }
  | .v3 _ => .v3 { chrSel := BitVec.ofNat 2 (d.toNat % 4) }
  | .v4 m =>
    let even := a.toNat % 2 = 0
    .v4 (if a.toNat < 0xA000 then
        if even then { m with target := BitVec.ofNat 3 (d.toNat % 8), prgMode := d.getLsbD 6, chrInv := d.getLsbD 7 }
        else { m with r := Vector.ofFn fun k => if k.val = m.target.toNat then d else m.r[k] }
      else if a.toNat < 0xC000 then
        if even then { m with mirror := if d.getLsbD 0 then .horizontal else .vertical } else m
      else if a.toNat < 0xE000 then
        if even then { m with irqReload := d } else { m with irqCounter := 0 }
      else
        if even then { m with irqEnable := false, irqActive := false } else { m with irqEnable := true })

/-- `LENGTH_TABLE` (63_apu.md R447). -/
def lengths : List Nat :=
  [10, 254, 20, 2, 40, 4, 80, 6, 160, 8, 60, 10, 14, 12, 26, 14,
   12, 16, 24, 18, 48, 20, 96, 22, 192, 24, 72, 26, 16, 28, 32, 30]

/-- The length counter `n` of a channel after a write of `d` that loads it (63_apu.md R426, R429, R447). -/
def LengthLoaded (enabled : Bool) (old : Byte) (d : Byte) (n : Byte) : Prop :=
  n.toNat = if enabled then lengths.getD (d.toNat / 8) 0 else old.toNat

/-- Pulse channel `p` becomes `q` by a write of `d` to its period-high and length register (63_apu.md R426, R451). -/
def PulseRestarts (p : Pulse) (d : Byte) (q : Pulse) : Prop :=
  q = { p with
      period := q.period, timer := q.period, seq := q.seq, length := q.length, env := { p.env with start := true } }
    ∧ q.period.toNat = d.toNat % 8 * 256 + p.period.toNat % 256
    ∧ q.seq.toNat = [0b01000000, 0b01100000, 0b01111000, 0b10011111].getD p.duty.toNat 0
    ∧ LengthLoaded p.enabled p.length d q.length

/-- A write of `d` to a pulse channel's first, second and third register (63_apu.md R423 to R425). -/
def pulseControl (p : Pulse) (d : Byte) : Pulse :=
  { p with
    duty := BitVec.ofNat 2 (d.toNat / 64), halt := d.getLsbD 5
    env := { p.env with constant := d.getLsbD 4, volume := BitVec.ofNat 4 (d.toNat % 16) } }
def pulseSweep (p : Pulse) (d : Byte) : Pulse :=
  { p with sw :=
    { enable := d.getLsbD 7, period := BitVec.ofNat 3 (d.toNat / 16 % 8), negate := d.getLsbD 3,
      shift := BitVec.ofNat 3 (d.toNat % 8), reload := true, divider := p.sw.divider } }
def pulsePeriodLow (p : Pulse) (d : Byte) : Pulse :=
  { p with period := BitVec.ofNat 11 (p.period.toNat / 256 * 256 + d.toNat) }

/-- `NOISE_PERIOD` (63_apu.md R456). -/
def noisePeriods : List Nat := [4, 8, 16, 32, 64, 96, 128, 160, 202, 254, 380, 508, 762, 1016, 2034, 4068]

/-- What an audio tick that leaves the frame sequencer at `c` makes of a pulse channel: its envelope at the quarter
milestones, its length and then its sweep at the half milestones, then its timer (63_apu.md R440 to R443). -/
def pulseTick (c : Nat) (first : Bool) (p : Pulse) : Pulse :=
  let p := if c ∈ [3729, 7457, 11186, 14916] then { p with env := p.env.clock p.halt } else p
  let p := if c ∈ [7457, 14916] then { p with length := lengthClock p.halt p.length }.sweepClock first else p
  p.timerTick

/-- The same of the noise channel. -/
def noiseTick (c : Nat) (z : Noise) : Noise :=
  let z := if c ∈ [3729, 7457, 11186, 14916] then { z with env := z.env.clock z.halt } else z
  let z := if c ∈ [7457, 14916] then { z with length := lengthClock z.halt z.length } else z
  z.timerTick

/-- The mirroring mode in force: `HORIZONTAL` with no cartridge, by `control[1:0]` in variant 1, by its own register in
variant 4, the header's in the others (62_ppu.md R355, 64_cartridge.md R487, R502, R516, R523, R528, R539). -/
def mirrorInForce (cart : Option Cart) : Mirror :=
  let header := fun h : HwMirror => match h with
    | .horizontal => Mirror.horizontal
    | .vertical => .vertical
  match cart with
  | none => .horizontal
  | some c => match c.mapper with
    | .v1 m => [.onescreenLo, .onescreenHi, .vertical, .horizontal].getD (m.control.toNat % 4) .horizontal
    | .v4 m => header m.mirror
    | _ => header c.hwMirror

/-- The rows of the nametable quadrant table (62_ppu.md R355); the sentinel mode is never in force. -/
def quadrantTables : Mirror → List Nat
  | .vertical => [0, 1, 0, 1]
  | .horizontal | .hardware => [0, 0, 1, 1]
  | .onescreenLo => [0, 0, 0, 0]
  | .onescreenHi => [1, 1, 1, 1]

/-- Table and offset of a PPU address from 0x2000 to 0x3EFF (62_ppu.md R355). -/
def nametableCell (s : State) (a : Nat) : Nat × Nat :=
  ((quadrantTables (mirrorInForce s.cart)).getD (a / 0x400 % 4) 0, a % 0x400)

/-- The palette entry of a PPU address from 0x3F00 (62_ppu.md R356). -/
def paletteEntry (a : Nat) : Nat :=
  if a % 0x20 ∈ [0x10, 0x14, 0x18, 0x1C] then a % 0x20 - 0x10 else a % 0x20

/-- The CHR offset of a pattern-space address below 0x2000 (64_cartridge.md R502, R515, R523, R528, R538). -/
def chrOffsetOf (c : Cart) (a : Nat) : Nat :=
  match c.mapper with
  | .v0 | .v2 _ => a
  | .v1 m =>
    if c.chrBanks.toNat = 0 then a
    else if m.control.getLsbD 4 then (if a < 0x1000 then m.chrLo.toNat else m.chrHi.toNat) * 0x1000 + a % 0x1000
    else m.chr8.toNat * 0x1000 + a
  | .v3 m => m.chrSel.toNat * 0x2000 + a
  | .v4 m =>
    let even := fun k : Fin 8 => m.r[k].toNat / 2 * 2
    let pairs := [even 0, even 0 + 1, even 1, even 1 + 1]
    let singles := [m.r[2].toNat, m.r[3].toNat, m.r[4].toNat, m.r[5].toNat]
    (if m.chrInv then singles ++ pairs else pairs ++ singles).getD (a / 0x400) 0 * 0x400 + a % 0x400

end Sys2Proof.Stated

open Sys2Proof Sys2Proof.Machine Sys2Proof.Stated

/-! ## Encoding -/

/-- Decoding the bytes of any well-formed instruction, whatever follows them, gives the instruction back and leaves
what follows (30_encoding.md R100 to R103, R110, R111). -/
def Obligations.DecodeOfEncode : Prop :=
  ∀ (i : Instr) (rest : List Byte), i.wellFormed = true → decode (encode i ++ rest) = .ok (i, rest)

/-- Bytes that decode are exactly the encoding of what they decode to, followed by what is left. -/
def Obligations.EncodeOfDecode : Prop :=
  ∀ (bs : List Byte) (i : Instr) (rest : List Byte),
    decode bs = .ok (i, rest) → bs = encode i ++ rest ∧ i.wellFormed = true

/-- R103: three bytes of any value decode, to an instruction whose opcode is the first byte and whose length of 1 to 3
bytes depends on that byte alone; its cost is the one the opcode matrix prints (of an illegal opcode the default: log 5). -/
def Obligations.DecoderIsTotal : Prop :=
  (∀ (op b1 b2 : Byte) (rest : List Byte), ∃ i tail,
    decode (op :: b1 :: b2 :: rest) = .ok (i, tail) ∧ i.wellFormed = true ∧ i.opcode = op
      ∧ i.baseCycles = (opEntry op).cycles ∧ tail = (op :: b1 :: b2 :: rest).drop i.length ∧ 1 ≤ i.length ∧ i.length ≤ 3)
  ∧ ∀ (op : Byte) (xs ys : List Byte) (i j : Instr) (r q : List Byte),
      decode (op :: xs) = .ok (i, r) → decode (op :: ys) = .ok (j, q) → i.length = j.length

/-- A few words written out from the encoding rules (30_encoding.md R110, R118) decode to the instructions they stand
for. -/
def Obligations.WrittenWordsDecode : Prop :=
  decodeTableWord 16 0b0000101010100010 = some (.ldxImm 0x0A)
  ∧ decodeTableWord 16 0b0000000010000110 = some (.stxZp0 0x00)
  ∧ decodeTableWord 8 0b11001010 = some .dex
  ∧ decodeTableWord 24 0b100000000000000001001100 = some (.jmpAbs 0x8000)
  ∧ decodeTableWord 24 0b000000101111111101101100 = some (.jmpInd 0x02FF)
  ∧ decodeTableWord 16 0b0010000010110001 = some (.ldaIzy 0x20)
  ∧ decodeTableWord 16 0b1111110111010000 = some (.bne 0xFD)
  ∧ decodeTableWord 8 0b00000010 = some .ill02

/-! ## What the instructions do -/

/-- R150 to R152: a load puts the operand into its register and sets Z and N from it; C, V, I, D and everything else
stay; one more cycle on a page crossing. -/
def Obligations.LoadsWriteTheirRegister : Prop :=
  (EncodedAs .lda
      [(0xA1, .izx, 6), (0xA5, .zp0, 3), (0xA9, .imm, 2), (0xAD, .abs, 4),
       (0xB1, .izy, 5), (0xB5, .zpx, 4), (0xB9, .aby, 4), (0xBD, .abx, 4)]
    ∧ EncodedAs .ldx [(0xA2, .imm, 2), (0xA6, .zp0, 3), (0xAE, .abs, 4), (0xB6, .zpy, 4), (0xBE, .aby, 4)]
    ∧ EncodedAs .ldy [(0xA0, .imm, 2), (0xA4, .zp0, 3), (0xAC, .abs, 4), (0xB4, .zpx, 4), (0xBC, .abx, 4)])
  ∧ ∀ (i : Instr) (s : State),
    let o := s.source i.line.mode
    (i.line.mnem = .lda → AccumulatorGets i s id)
    ∧ (i.line.mnem = .ldx →
        Completes i s (fun p => { o.st with cpu := { s.cpu with x := o.val, p := p, cycles := costOf i s } })
          fun p => ZNOf o.val p s.cpu.p)
    ∧ (i.line.mnem = .ldy →
        Completes i s (fun p => { o.st with cpu := { s.cpu with y := o.val, p := p, cycles := costOf i s } })
          fun p => ZNOf o.val p s.cpu.p)

/-- R153 to R155: a store writes its register at the effective address, changes no flag and no register, and never
takes an extra cycle. -/
def Obligations.StoresWriteTheByte : Prop :=
  (EncodedAs .sta
      [(0x81, .izx, 6), (0x85, .zp0, 3), (0x8D, .abs, 4),
       (0x91, .izy, 6), (0x95, .zpx, 4), (0x99, .aby, 5), (0x9D, .abx, 5)]
    ∧ EncodedAs .stx [(0x86, .zp0, 3), (0x8E, .abs, 4), (0x96, .zpy, 4)]
    ∧ EncodedAs .sty [(0x84, .zp0, 3), (0x8C, .abs, 4), (0x94, .zpx, 4)])
  ∧ ∀ (i : Instr) (s : State),
    (i.line.mnem = .sta → StoresByte i s s.cpu.a)
    ∧ (i.line.mnem = .stx → StoresByte i s s.cpu.x)
    ∧ (i.line.mnem = .sty → StoresByte i s s.cpu.y)

/-- R160 to R165: the transfers, 2 cycles each; all but `TXS` set Z and N from the byte moved. -/
def Obligations.TransfersMoveRegisters : Prop :=
  (EncodedAs .tax [(0xAA, .imp, 2)]
    ∧ EncodedAs .tay [(0xA8, .imp, 2)]
    ∧ EncodedAs .txa [(0x8A, .imp, 2)]
    ∧ EncodedAs .tya [(0x98, .imp, 2)]
    ∧ EncodedAs .tsx [(0xBA, .imp, 2)]
    ∧ EncodedAs .txs [(0x9A, .imp, 2)])
  ∧ ∀ s : State,
    Completes .tax s (fun p => { s with cpu := { s.cpu with x := s.cpu.a, p := p, cycles := 2 } })
      (fun p => ZNOf s.cpu.a p s.cpu.p)
    ∧ Completes .tay s (fun p => { s with cpu := { s.cpu with y := s.cpu.a, p := p, cycles := 2 } })
      (fun p => ZNOf s.cpu.a p s.cpu.p)
    ∧ Completes .txa s (fun p => { s with cpu := { s.cpu with a := s.cpu.x, p := p, cycles := 2 } })
      (fun p => ZNOf s.cpu.x p s.cpu.p)
    ∧ Completes .tya s (fun p => { s with cpu := { s.cpu with a := s.cpu.y, p := p, cycles := 2 } })
      (fun p => ZNOf s.cpu.y p s.cpu.p)
    ∧ Completes .tsx s (fun p => { s with cpu := { s.cpu with x := s.cpu.sp, p := p, cycles := 2 } })
      (fun p => ZNOf s.cpu.sp p s.cpu.p)
    ∧ exec .txs s = .next { s with cpu := { s.cpu with sp := s.cpu.x, cycles := 2 } }

/-- R166 to R169: `PHA` and `PHP` write one byte of the stack page at `SP` and decrement `SP` modulo 256, the image of
`PHP` with B and U set; `PLA` and `PLP` increment `SP` and read the stack page there; `PLP` takes N, V, D, I, Z, C from
the byte and makes B 0 and U 1 whatever the byte holds. -/
def Obligations.StackInstructions : Prop :=
  (EncodedAs .pha [(0x48, .imp, 3)]
    ∧ EncodedAs .php [(0x08, .imp, 3)]
    ∧ EncodedAs .pla [(0x68, .imp, 4)]
    ∧ EncodedAs .plp [(0x28, .imp, 4)])
  ∧ ∀ s : State,
    let v := stackByte s (s.cpu.sp + 1)
    let image := s.cpu.p ||| 0x30
    exec .pha s = .next { s with
      cpu := { s.cpu with sp := s.cpu.sp - 1, cycles := 3 }
      bus := { s.bus with ram := pushed s.bus.ram s.cpu.sp [s.cpu.a] } }
    ∧ exec .php s = .next { s with
        cpu := { s.cpu with sp := s.cpu.sp - 1, cycles := 3 }
        bus := { s.bus with ram := pushed s.bus.ram s.cpu.sp [image] } }
    ∧ flagB image = true ∧ flagU image = true
    ∧ Completes .pla s (fun p => { s with cpu := { s.cpu with a := v, sp := s.cpu.sp + 1, p := p, cycles := 4 } })
      (fun p => ZNOf v p s.cpu.p)
    ∧ Completes .plp s (fun p => { s with cpu := { s.cpu with sp := s.cpu.sp + 1, p := p, cycles := 4 } })
      (fun p => flagN p = flagN v ∧ flagV p = flagV v ∧ flagD p = flagD v ∧ flagI p = flagI v ∧ flagZ p = flagZ v
        ∧ flagC p = flagC v ∧ flagB p = false ∧ flagU p = true)

/-- R180 to R182: `AND`, `ORA`, `EOR`. -/
def Obligations.LogicCombinesWithA : Prop :=
  (EncodedAs .and
      [(0x21, .izx, 6), (0x25, .zp0, 3), (0x29, .imm, 2), (0x2D, .abs, 4),
       (0x31, .izy, 5), (0x35, .zpx, 4), (0x39, .aby, 4), (0x3D, .abx, 4)]
    ∧ EncodedAs .ora
      [(0x01, .izx, 6), (0x05, .zp0, 3), (0x09, .imm, 2), (0x0D, .abs, 4),
       (0x11, .izy, 5), (0x15, .zpx, 4), (0x19, .aby, 4), (0x1D, .abx, 4)]
    ∧ EncodedAs .eor
      [(0x41, .izx, 6), (0x45, .zp0, 3), (0x49, .imm, 2), (0x4D, .abs, 4),
       (0x51, .izy, 5), (0x55, .zpx, 4), (0x59, .aby, 4), (0x5D, .abx, 4)])
  ∧ ∀ (i : Instr) (s : State),
    (i.line.mnem = .and → AccumulatorGets i s (s.cpu.a &&& ·))
    ∧ (i.line.mnem = .ora → AccumulatorGets i s (s.cpu.a ||| ·))
    ∧ (i.line.mnem = .eor → AccumulatorGets i s (s.cpu.a ^^^ ·))

/-- R183: `BIT` takes Z from `A & M`, N and V from bits 7 and 6 of `M`, leaves `A`, and never takes an extra cycle. -/
def Obligations.BitTestsTheOperand : Prop :=
  (EncodedAs .bit [(0x24, .zp0, 3), (0x2C, .abs, 4)])
  ∧ ∀ (i : Instr) (s : State), i.line.mnem = .bit →
    let o := s.source i.line.mode
    Completes i s (fun p => { o.st with cpu := { s.cpu with p := p, cycles := i.baseCycles } })
      fun p => FlagsAre p s.cpu.p (o.val.getLsbD 7) (o.val.getLsbD 6) (flagD s.cpu.p) (flagI s.cpu.p)
        (decide ((s.cpu.a &&& o.val).toNat = 0)) (flagC s.cpu.p)

/-- R190: `ADC`, whatever D is. `A` gets the sum modulo 256; C is the 9th bit; V says that the signed sum does not fit;
Z and N are of the 8-bit result. -/
def Obligations.AddWithCarrySums : Prop :=
  (EncodedAs .adc
      [(0x61, .izx, 6), (0x65, .zp0, 3), (0x69, .imm, 2), (0x6D, .abs, 4),
       (0x71, .izy, 5), (0x75, .zpx, 4), (0x79, .aby, 4), (0x7D, .abx, 4)])
  ∧ ∀ (i : Instr) (s : State), i.line.mnem = .adc →
    let o := s.source i.line.mode
    let c := (flagC s.cpu.p).toNat
    let signed := s.cpu.a.toInt + o.val.toInt + c
    ∃ r : Byte, r.toNat = (s.cpu.a.toNat + o.val.toNat + c) % 256
      ∧ Completes i s (fun p => { o.st with cpu := { s.cpu with a := r, p := p, cycles := costOf i s } })
        fun p => FlagsAre p s.cpu.p (decide (128 ≤ r.toNat)) (decide (signed < -128 ∨ 127 < signed)) (flagD s.cpu.p)
          (flagI s.cpu.p) (decide (r.toNat = 0)) (decide (255 < s.cpu.a.toNat + o.val.toNat + c))

/-- R191: `SBC`, whatever D is. `A <- A - M - (1 - C)` modulo 256; C = 1 when no borrow occurred; V says that the
signed difference does not fit. -/
def Obligations.SubtractWithBorrow : Prop :=
  (EncodedAs .sbc
      [(0xE1, .izx, 6), (0xE5, .zp0, 3), (0xE9, .imm, 2), (0xED, .abs, 4),
       (0xF1, .izy, 5), (0xF5, .zpx, 4), (0xF9, .aby, 4), (0xFD, .abx, 4)])
  ∧ ∀ (i : Instr) (s : State), i.line.mnem = .sbc →
    let o := s.source i.line.mode
    let borrow := 1 - (flagC s.cpu.p).toNat
    let signed := s.cpu.a.toInt - o.val.toInt - borrow
    ∃ r : Byte, r.toNat = (s.cpu.a.toNat + 256 - o.val.toNat - borrow) % 256
      ∧ Completes i s (fun p => { o.st with cpu := { s.cpu with a := r, p := p, cycles := costOf i s } })
        fun p => FlagsAre p s.cpu.p (decide (128 ≤ r.toNat)) (decide (signed < -128 ∨ 127 < signed)) (flagD s.cpu.p)
          (flagI s.cpu.p) (decide (r.toNat = 0)) (decide (o.val.toNat + borrow ≤ s.cpu.a.toNat))

/-- R192 to R194, R196: the compares set C, Z, N from the unsigned comparison and the 8-bit difference; no register
changes, V neither; only `CMP` can take the extra cycle. -/
def Obligations.ComparesSetFlags : Prop :=
  (EncodedAs .cmp
      [(0xC1, .izx, 6), (0xC5, .zp0, 3), (0xC9, .imm, 2), (0xCD, .abs, 4),
       (0xD1, .izy, 5), (0xD5, .zpx, 4), (0xD9, .aby, 4), (0xDD, .abx, 4)]
    ∧ EncodedAs .cpx [(0xE0, .imm, 2), (0xE4, .zp0, 3), (0xEC, .abs, 4)]
    ∧ EncodedAs .cpy [(0xC0, .imm, 2), (0xC4, .zp0, 3), (0xCC, .abs, 4)])
  ∧ ∀ (i : Instr) (s : State),
    let o := s.source i.line.mode
    (i.line.mnem = .cmp →
      Completes i s (fun p => { o.st with cpu := { s.cpu with p := p, cycles := costOf i s } })
        fun p => ComparedTo s.cpu.a o.val p s.cpu.p)
    ∧ (i.line.mnem = .cpx →
        Completes i s (fun p => { o.st with cpu := { s.cpu with p := p, cycles := i.baseCycles } })
          fun p => ComparedTo s.cpu.x o.val p s.cpu.p)
    ∧ (i.line.mnem = .cpy →
        Completes i s (fun p => { o.st with cpu := { s.cpu with p := p, cycles := i.baseCycles } })
          fun p => ComparedTo s.cpu.y o.val p s.cpu.p)

/-- R200 to R205: `INC` and `DEC` read once and write once; `INX`, `INY`, `DEX`, `DEY` work on the register; all wrap
modulo 256 and set Z and N and no other flag. -/
def Obligations.IncrementsAndDecrements : Prop :=
  (EncodedAs .inc [(0xE6, .zp0, 5), (0xEE, .abs, 6), (0xF6, .zpx, 6), (0xFE, .abx, 7)]
    ∧ EncodedAs .dec [(0xC6, .zp0, 5), (0xCE, .abs, 6), (0xD6, .zpx, 6), (0xDE, .abx, 7)]
    ∧ EncodedAs .inx [(0xE8, .imp, 2)]
    ∧ EncodedAs .iny [(0xC8, .imp, 2)]
    ∧ EncodedAs .dex [(0xCA, .imp, 2)]
    ∧ EncodedAs .dey [(0x88, .imp, 2)])
  ∧ ∀ (i : Instr) (s : State),
    (i.line.mnem = .inc → ModifiesByte i s (· + 1) fun m p => ZNOf (m + 1) p s.cpu.p)
    ∧ (i.line.mnem = .dec → ModifiesByte i s (· - 1) fun m p => ZNOf (m - 1) p s.cpu.p)
    ∧ Completes .inx s (fun p => { s with cpu := { s.cpu with x := s.cpu.x + 1, p := p, cycles := 2 } })
      (fun p => ZNOf (s.cpu.x + 1) p s.cpu.p)
    ∧ Completes .iny s (fun p => { s with cpu := { s.cpu with y := s.cpu.y + 1, p := p, cycles := 2 } })
      (fun p => ZNOf (s.cpu.y + 1) p s.cpu.p)
    ∧ Completes .dex s (fun p => { s with cpu := { s.cpu with x := s.cpu.x - 1, p := p, cycles := 2 } })
      (fun p => ZNOf (s.cpu.x - 1) p s.cpu.p)
    ∧ Completes .dey s (fun p => { s with cpu := { s.cpu with y := s.cpu.y - 1, p := p, cycles := 2 } })
      (fun p => ZNOf (s.cpu.y - 1) p s.cpu.p)

/-- R206 to R209: `ASL`, `LSR`, `ROL`, `ROR`, on `A` or on one memory byte read once and written once. -/
def Obligations.ShiftsAndRotates : Prop :=
  (EncodedAs .asl [(0x06, .zp0, 5), (0x0A, .acc, 2), (0x0E, .abs, 6), (0x16, .zpx, 6), (0x1E, .abx, 7)]
    ∧ EncodedAs .lsr [(0x46, .zp0, 5), (0x4A, .acc, 2), (0x4E, .abs, 6), (0x56, .zpx, 6), (0x5E, .abx, 7)]
    ∧ EncodedAs .rol [(0x26, .zp0, 5), (0x2A, .acc, 2), (0x2E, .abs, 6), (0x36, .zpx, 6), (0x3E, .abx, 7)]
    ∧ EncodedAs .ror [(0x66, .zp0, 5), (0x6A, .acc, 2), (0x6E, .abs, 6), (0x76, .zpx, 6), (0x7E, .abx, 7)])
  ∧ ∀ (i : Instr) (s : State), [Mnem.asl, .lsr, .rol, .ror].contains i.line.mnem = true →
    ∃ (f : Byte → Byte) (out : Byte → Bool), (∀ m, ShiftIs i.line.mnem m (flagC s.cpu.p) (f m) (out m))
      ∧ (ModifiesA i s f (fun m p => ShiftFlags (f m) (out m) p s.cpu.p)
        ∨ ModifiesByte i s f (fun m p => ShiftFlags (f m) (out m) p s.cpu.p))

/-- R220 with R138 and R140: `JMP`. The indirect form reads the high byte of its target from the start of the same page
when the pointer stands at the end of a page. -/
def Obligations.JumpsSetPC : Prop :=
  EncodedAs .jmp [(0x4C, .abs, 3), (0x6C, .ind, 5)]
  ∧ ∀ s : State,
    (∀ a : Addr, exec (.jmpAbs a) s = .next { s with cpu := { s.cpu with pc := a, cycles := 3 } })
    ∧ ∀ p : Addr,
      let lo := s.memRead p
      let hi := lo.st.memRead (if p.toNat % 256 = 255 then BitVec.ofNat 16 (p.toNat - 255) else p + 1)
      exec (.jmpInd p) s = .next { hi.st with cpu := { s.cpu with pc := joinBytes hi.val lo.val, cycles := 5 } }

/-- R221, R222: `JSR` pushes the address of its last byte, high byte first, and jumps; `RTS` pulls low then high byte
and adds one. -/
def Obligations.SubroutineCallAndReturn : Prop :=
  (EncodedAs .jsr [(0x20, .abs, 6)]
    ∧ EncodedAs .rts [(0x60, .imp, 6)])
  ∧ ∀ s : State,
    (∀ a : Addr, exec (.jsrAbs a) s = .next { s with
      cpu := { s.cpu with pc := a, sp := s.cpu.sp - 2, cycles := 6 }
      bus := { s.bus with ram := pushed s.bus.ram s.cpu.sp [page (s.cpu.pc - 1), lowByte (s.cpu.pc - 1)] } })
    ∧ exec .rts s = .next { s with
        cpu := { s.cpu with
          pc := joinBytes (stackByte s (s.cpu.sp + 2)) (stackByte s (s.cpu.sp + 1)) + 1, sp := s.cpu.sp + 2,
          cycles := 6 } }

/-- R226 to R234: the eight branches: 2 cycles not taken, 3 taken, 4 taken to another page than that of the instruction
after the branch; no flag changes. -/
def Obligations.BranchesTestOneFlag : Prop :=
  (EncodedAs .bcc [(0x90, .rel, 2)] ∧ EncodedAs .bcs [(0xB0, .rel, 2)]
    ∧ EncodedAs .beq [(0xF0, .rel, 2)] ∧ EncodedAs .bne [(0xD0, .rel, 2)]
    ∧ EncodedAs .bmi [(0x30, .rel, 2)] ∧ EncodedAs .bpl [(0x10, .rel, 2)]
    ∧ EncodedAs .bvc [(0x50, .rel, 2)] ∧ EncodedAs .bvs [(0x70, .rel, 2)])
  ∧ ∀ (s : State) (r : Byte),
    BranchesWhen (.bcc r) s r (!flagC s.cpu.p) ∧ BranchesWhen (.bcs r) s r (flagC s.cpu.p)
    ∧ BranchesWhen (.beq r) s r (flagZ s.cpu.p) ∧ BranchesWhen (.bne r) s r (!flagZ s.cpu.p)
    ∧ BranchesWhen (.bmi r) s r (flagN s.cpu.p) ∧ BranchesWhen (.bpl r) s r (!flagN s.cpu.p)
    ∧ BranchesWhen (.bvc r) s r (!flagV s.cpu.p) ∧ BranchesWhen (.bvs r) s r (flagV s.cpu.p)

/-- R240 to R246: the flag instructions change the one flag they name. -/
def Obligations.FlagInstructionsChangeOneFlag : Prop :=
  (EncodedAs .clc [(0x18, .imp, 2)]
    ∧ EncodedAs .sec [(0x38, .imp, 2)]
    ∧ EncodedAs .cli [(0x58, .imp, 2)]
    ∧ EncodedAs .sei [(0x78, .imp, 2)]
    ∧ EncodedAs .cld [(0xD8, .imp, 2)]
    ∧ EncodedAs .sed [(0xF8, .imp, 2)]
    ∧ EncodedAs .clv [(0xB8, .imp, 2)])
  ∧ ∀ s : State,
    let q := s.cpu.p
    let sets := fun (i : Instr) (v d i' c : Bool) =>
      Completes i s (fun p => { s with cpu := { s.cpu with p := p, cycles := 2 } })
        fun p => FlagsAre p q (flagN q) v d i' (flagZ q) c
    sets .clc (flagV q) (flagD q) (flagI q) false ∧ sets .sec (flagV q) (flagD q) (flagI q) true
    ∧ sets .cli (flagV q) (flagD q) false (flagC q) ∧ sets .sei (flagV q) (flagD q) true (flagC q)
    ∧ sets .cld (flagV q) false (flagI q) (flagC q) ∧ sets .sed (flagV q) true (flagI q) (flagC q)
    ∧ sets .clv false (flagD q) (flagI q) (flagC q)

/-- R247, R250, R112, R113: `NOP` and every illegal opcode change nothing but `cycles`; 105 opcode bytes are illegal,
each is its own instruction of one byte. The cost of an illegal opcode is the one the argument `ILLEGAL_CYCLES` gives its
byte (R6): any map of these bytes to 1 to 8 is such an argument, and the default is the matrix's (log 5). -/
def Obligations.NopAndIllegalChangeNothing : Prop :=
  EncodedAs .nop [(0xEA, .imp, 2)]
  ∧ (∀ s : State, exec .nop s = .next { s with cpu := { s.cpu with cycles := 2 } })
  ∧ (∀ (i : Instr) (op : Byte), i.line.mnem = .ill op →
      encode i = [op] ∧ i.length = 1 ∧ illegalCycles Params.default op = i.baseCycles
      ∧ ∀ s : State, exec i s = .next { s with cpu := { s.cpu with cycles := illegalCycles s.params op } }
          ∧ 1 ≤ illegalCycles s.params op ∧ illegalCycles s.params op ≤ 8)
  ∧ (∀ cost : Byte → Fin 8, ∃ q : Params, ∀ (i : Instr) (op : Byte), i.line.mnem = .ill op →
      illegalCycles q op = (cost op).val + 1)
  ∧ ((List.range 256).filter fun n => match (opEntry (BitVec.ofNat 8 n)).mnem with
      | .ill _ => true
      | _ => false).length = 105

/-- R248: `BRK` pushes the address after its padding byte and the status with B and U set, sets I, and goes to the
IRQ vector, whatever I was. -/
def Obligations.BreakTakesTheVector : Prop :=
  (EncodedAs .brk [(0x00, .imp, 7)])
  ∧ ∀ s : State,
    Completes .brk s
      (fun p => { s with
        cpu := { s.cpu with sp := s.cpu.sp - 3, p := p, pc := wordAt s 0xFFFE, cycles := 7 }
        bus := { s.bus with
          ram := pushed s.bus.ram s.cpu.sp [page (s.cpu.pc + 1), lowByte (s.cpu.pc + 1), s.cpu.p ||| 0x30] } })
      fun p => FlagsAre p s.cpu.p (flagN s.cpu.p) (flagV s.cpu.p) (flagD s.cpu.p) true (flagZ s.cpu.p) (flagC s.cpu.p)

/-- R249: `RTI` pulls the status (B 0, U 1) and then `PC`, low byte first, with no one added. -/
def Obligations.ReturnFromInterruptPulls : Prop :=
  (EncodedAs .rti [(0x40, .imp, 6)])
  ∧ ∀ s : State,
    let v := stackByte s (s.cpu.sp + 1)
    Completes .rti s
      (fun p => { s with
        cpu := { s.cpu with
          sp := s.cpu.sp + 3, p := p,
          pc := joinBytes (stackByte s (s.cpu.sp + 3)) (stackByte s (s.cpu.sp + 2)), cycles := 6 } })
      fun p => flagN p = flagN v ∧ flagV p = flagV v ∧ flagD p = flagD v ∧ flagI p = flagI v ∧ flagZ p = flagZ v
        ∧ flagC p = flagC v ∧ flagB p = false ∧ flagU p = true

/-! ## Operands -/

/-- R131 to R140, R142: where each addressing mode finds its operand, what it reads to get there, and when it reports a
page crossing. Zero-page sums wrap inside the zero page. -/
def Obligations.EffectiveAddresses : Prop :=
  ∀ s : State,
    let zp := fun n : Nat => Mem.read s.bus.ram (n % 256)
    (∀ z : Byte, s.locate (.zp0 z) = ⟨BitVec.ofNat 16 z.toNat, false, s⟩
      ∧ s.locate (.zpx z) = ⟨BitVec.ofNat 16 ((z.toNat + s.cpu.x.toNat) % 256), false, s⟩
      ∧ s.locate (.zpy z) = ⟨BitVec.ofNat 16 ((z.toNat + s.cpu.y.toNat) % 256), false, s⟩
      ∧ s.locate (.izx z) =
          ⟨joinBytes (zp (z.toNat + s.cpu.x.toNat + 1)) (zp (z.toNat + s.cpu.x.toNat)), false, s⟩
      ∧ (let hi := zp (z.toNat + 1)
         let ea : Addr := BitVec.ofNat 16 (hi.toNat * 256 + (zp z.toNat).toNat + s.cpu.y.toNat)
         s.locate (.izy z) = ⟨ea, decide (ea.toNat / 256 ≠ hi.toNat), s⟩))
    ∧ (∀ a : Addr, s.locate (.abs a) = ⟨a, false, s⟩
      ∧ (let ea : Addr := BitVec.ofNat 16 (a.toNat + s.cpu.x.toNat)
         s.locate (.abx a) = ⟨ea, decide (ea.toNat / 256 ≠ a.toNat / 256), s⟩)
      ∧ (let ea : Addr := BitVec.ofNat 16 (a.toNat + s.cpu.y.toNat)
         s.locate (.aby a) = ⟨ea, decide (ea.toNat / 256 ≠ a.toNat / 256), s⟩))
    ∧ (∀ m : MemMode, s.source (.mem m) =
        ⟨((s.locate m).st.memRead (s.locate m).ea).val, (s.locate m).crossed,
          ((s.locate m).st.memRead (s.locate m).ea).st⟩)
    ∧ (∀ v : Byte, s.source (.imm v) = ⟨v, false, s⟩)
    ∧ s.source .acc = ⟨s.cpu.a, false, s⟩

/-- R64, R75, R143: the read-only path answers what the real read answers, at every address, of which the DATA register
with a palette address is the model's choice between R64 with D22 and R351's own sentence (log 13); the reads with an effect are
those of picture-unit registers 2 and 7 and of 0x4016 and 0x4017; any other read changes nothing; and reading an operand, in any mode, changes nothing
but what those effects change, and no CPU register. -/
def Obligations.ReadsHaveOnlyTheListedEffects : Prop :=
  (∀ a : Addr, readHasEffect a = true ↔
    (0x2000 ≤ a.toNat ∧ a.toNat < 0x4000 ∧ (a.toNat % 8 = 2 ∨ a.toNat % 8 = 7)) ∨ a.toNat = 0x4016 ∨ a.toNat = 0x4017)
  ∧ ∀ s : State,
    (∀ a : Addr, s.cpuPeek a = (s.memRead a).val)
    ∧ (∀ a : Addr, readHasEffect a = false → (s.memRead a).st = s)
    ∧ (∀ a : Addr, OnlyReadEffects s (s.memRead a).st ∧ (s.memRead a).st.cpu = s.cpu)
    ∧ (∀ m : Mode, OnlyReadEffects s (s.source m).st ∧ (s.source m).st.cpu = s.cpu)

/-! ## Memory -/

/-- R65, R66: the four mirrors of a RAM byte are one byte, for reads and for writes, and a picture-unit register is the
same at every mirror of its window. -/
def Obligations.MirroredAddresses : Prop :=
  (∀ (s : State) (a j k : Nat) (v : Byte), a < 0x800 → j < 4 → k < 4 →
    let mirror := fun n : Nat => (BitVec.ofNat 16 (a + 0x800 * n) : Addr)
    s.memRead (mirror j) = s.memRead (mirror k) ∧ (s.memRead (mirror j)).st = s
      ∧ s.memWrite (mirror j) v = s.memWrite (mirror k) v ∧ ((s.memWrite (mirror j) v).memRead (mirror k)).val = v)
  ∧ ∀ (s : State) (a : Addr) (v : Byte), 0x2000 ≤ a.toNat → a.toNat < 0x4000 →
      let b : Addr := BitVec.ofNat 16 (0x2000 + a.toNat % 8)
      s.memRead a = s.memRead b ∧ s.memWrite a v = s.memWrite b v

/-- R61 to R63, R67, R69, R431, R540: addresses nothing claims read 0x00 and ignore writes; so do reads of the
write-only audio addresses and of the DMA trigger, and writes of the audio addresses without a register. -/
def Obligations.UnmatchedAddressesReadZero : Prop :=
  ∀ (s : State) (a : Addr) (v : Byte),
    (((0x4018 ≤ a.toNat ∧ a.toNat < 0x6000)
        ∨ (0x6000 ≤ a.toNat ∧ a.toNat < 0x8000 ∧ ∀ c, s.cart = some c → c.mapper.variant ∉ [1, 4])
        ∨ (0x4018 ≤ a.toNat ∧ s.cart = none)) →
      s.memRead a = ⟨0, s⟩ ∧ s.memWrite a v = s)
    ∧ (0x4000 ≤ a.toNat ∧ a.toNat ≤ 0x4014 → s.memRead a = ⟨0, s⟩)
    ∧ (a.toNat ∈ [0x4008, 0x4009, 0x400A, 0x400B, 0x400D, 0x4010, 0x4011, 0x4012, 0x4013, 0x4017] → s.memWrite a v = s)

/-- A CPU-side write changes no byte but those `mayChange` names, changes no CPU register, is read back from RAM and
from cartridge RAM, and outside the device window leaves the picture and audio units alone (R61, R63, R65, R75, R540). -/
def Obligations.WritesChangeOnlyTheirTarget : Prop :=
  ∀ (s : State) (a : Addr) (v : Byte),
    (∀ b : Addr, ¬mayChange a b → (s.memWrite a v).cpuPeek b = s.cpuPeek b)
    ∧ (s.memWrite a v).cpu = s.cpu ∧ (s.memWrite a v).params = s.params
    ∧ (a.toNat < 0x2000 → ∀ b : Addr, mayChange a b → (s.memWrite a v).cpuPeek b = v)
    ∧ (0x6000 ≤ a.toNat → a.toNat < 0x8000 → (∃ c, s.cart = some c ∧ c.mapper.variant ∈ [1, 4]) →
        (s.memWrite a v).cpuPeek a = v)
    ∧ (a.toNat < 0x2000 ∨ 0x4018 ≤ a.toNat →
        (s.memWrite a v).ppu = s.ppu ∧ (s.memWrite a v).apu = s.apu
          ∧ (s.memWrite a v).bus = { s.bus with ram := (s.memWrite a v).bus.ram })

/-- The memory frame of EVERY instruction: when `i` completes, every address outside the bytes it stores to, and whose
read has no side effect, reads as before; and an instruction that stores nothing changes, beside CPU registers, nothing
but what its reads of the registers with read effects change (R75, R143). -/
def Obligations.InstructionMemoryFrame : Prop :=
  ∀ (i : Instr) (s t : State), exec i s = .next t →
    (∀ b : Addr, readHasEffect b = false → (∀ a ∈ storedTo i s, ¬mayChange a b) → t.cpuPeek b = s.cpuPeek b)
    ∧ (storedTo i s = [] → OnlyReadEffects s t)
    ∧ t.params = s.params

/-- The register frame of EVERY instruction: each of `A`, `X`, `Y`, `SP`, `PC` and each flag is unchanged but by the
instructions the tables name (10_state.md R20, R28). -/
def Obligations.InstructionRegisterFrame : Prop :=
  ∀ (i : Instr) (s t : State), exec i s = .next t →
    let m := i.line.mnem
    (writesA i = false → t.cpu.a = s.cpu.a) ∧ (writesX m = false → t.cpu.x = s.cpu.x)
    ∧ (writesY m = false → t.cpu.y = s.cpu.y) ∧ (writesSP m = false → t.cpu.sp = s.cpu.sp)
    ∧ (writesPC m = false → t.cpu.pc = s.cpu.pc)
    ∧ (writesNZ m = false → flagN t.cpu.p = flagN s.cpu.p ∧ flagZ t.cpu.p = flagZ s.cpu.p)
    ∧ (writesV m = false → flagV t.cpu.p = flagV s.cpu.p) ∧ (writesD m = false → flagD t.cpu.p = flagD s.cpu.p)
    ∧ (writesI m = false → flagI t.cpu.p = flagI s.cpu.p) ∧ (writesC m = false → flagC t.cpu.p = flagC s.cpu.p)
    ∧ (flagB s.cpu.p = false → flagB t.cpu.p = false) ∧ (flagU s.cpu.p = true → flagU t.cpu.p = true)

/-- No step writes PRG storage, or CHR storage that is not RAM, or changes what the header declared (R480, R68). -/
def Obligations.CartridgeStorageIsKept : Prop :=
  ∀ (s t : State) (c : Cart), step s = .next t → s.cart = some c →
    ∃ c', t.cart = some c' ∧ c'.prg = c.prg ∧ c'.prgBanks = c.prgBanks ∧ c'.chrBanks = c.chrBanks
      ∧ c'.mapperId = c.mapperId ∧ c'.hwMirror = c.hwMirror ∧ c'.mapper.variant = c.mapper.variant
      ∧ (c.chrIsRam = false → c'.chr = c.chr)

/-! ## Exceptions and reset -/

/-- R270 to R272: `NMI()` always, and `IRQ()` while I is 0, push `PC` (high byte first) and the status with B 0 and
U 1, clear B, set I, and go to the vector at a fixed cost; `IRQ()` while I is 1 does nothing at all. -/
def Obligations.InterruptEntry : Prop :=
  ∀ s : State,
    let q := s.cpu.p
    let enters := fun (t : State) (vector : Addr) (cost : Nat) =>
      ∃ p, t = { s with
            cpu := { s.cpu with sp := s.cpu.sp - 3, p := p, pc := wordAt s vector, cycles := cost }
            bus := { s.bus with
              ram := pushed s.bus.ram s.cpu.sp [page s.cpu.pc, lowByte s.cpu.pc, (q &&& 0xEF) ||| 0x20] } }
        ∧ flagI p = true ∧ flagB p = false ∧ flagN p = flagN q ∧ flagV p = flagV q ∧ flagD p = flagD q
        ∧ flagZ p = flagZ q ∧ flagC p = flagC q ∧ flagU p = flagU q
    enters s.nmi 0xFFFA 8
    ∧ (flagI q = false → enters s.irq 0xFFFE 7)
    ∧ (flagI q = true → s.irq = s)

/-- R274, R536: the IRQ poll clears the mapper's flag whether or not the CPU takes the interrupt, so a masked IRQ is
lost; and no step leaves the flag up. -/
def Obligations.MaskedIrqIsLost : Prop :=
  (∀ (s : State) (c : Cart), s.cart = some c → c.irqState = true →
    s.pollIrq.cart = some c.irqClear ∧ c.irqClear.irqState = false
      ∧ (flagI s.cpu.p = true → s.pollIrq = { s with cart := some c.irqClear })
      ∧ (flagI s.cpu.p = false → s.pollIrq = ({ s with cart := some c.irqClear } : State).irq))
  ∧ ∀ (s t : State) (c : Cart), step s = .next t → t.cart = some c → c.irqState = false

/-- R262(a), R400, R305, R277: in the step of dot (241, 1), with NMI enabled, the latch is raised, consumed and the NMI
delivered after whatever the CPU or DMA slot did (`u`), at a cost of 8, even when the mapper's IRQ is up too. -/
def Obligations.VblankDeliversNmi : Prop :=
  ∀ s : State, s.ppu.scanline = 241 → s.ppu.dot = 1 → s.ppu.ctrl.getLsbD 7 = true →
    ∃ u t, s.beforeSlot.slot = .next u ∧ step s = .next t
      ∧ t.cpu.pc = wordAt u 0xFFFA ∧ t.cpu.sp = u.cpu.sp - 3 ∧ t.cpu.cycles = 8
      ∧ flagI t.cpu.p = true ∧ t.ppu.nmi = false
      ∧ t.bus.ram = pushed u.bus.ram u.cpu.sp [page u.cpu.pc, lowByte u.cpu.pc, (u.cpu.p &&& 0xEF) ||| 0x20]

/-- R550, R304, R410, R475, R492, R551, R552, for every state: reset gives the CPU its values and the word at the reset
vector, as the mapper in its reset state shows it, makes everything of the picture unit but its memories 0 or false, gives
the audio unit the argument `APU_RESET` (R6), and keeps every memory, the controllers and the audio timing. -/
def Obligations.ResetGivesFixedValues : Prop :=
  ∀ s : State,
    let r := s.busReset
    let zeroSlot : Slot := { y := 0x00, id := 0x00, attr := 0x00, x := 0x00, lo := 0x00, hi := 0x00 }
    r.cart = s.cart.map Cart.reset
    ∧ r.cpu = { a := 0x00, x := 0x00, y := 0x00, sp := 0xFD, p := 0x20, pc := wordAt r 0xFFFC, cycles := 8 }
    ∧ r.bus = { s.bus with
        n := 0, dmaArmed := false, dmaDummy := true, dmaPage := 0, dmaAddr := 0, dmaData := 0 }
    ∧ r.ppu = {
        ctrl := 0x00, mask := 0x00, vblank := false, zeroHit := false, overflow := false
        v := 0, t := 0, fineX := 0, w := false, dataBuf := 0x00, oamAddr := 0x00
        oam := s.ppu.oam, nt := s.ppu.nt, pal := s.ppu.pal, frame := s.ppu.frame
        scanline := 0, dot := 0
        ntByte := 0x00, atBits := 0, ptLo := 0x00, ptHi := 0x00, bgLo := 0, bgHi := 0, bgAtLo := 0, bgAtHi := 0
        slots := #v[zeroSlot, zeroSlot, zeroSlot, zeroSlot, zeroSlot, zeroSlot, zeroSlot, zeroSlot]
        spriteCount := 0, zeroPossible := false, nmi := false, frameComplete := false }
    ∧ r.apu = s.params.apuReset ∧ r.params = s.params
    ∧ ∀ c, s.cart = some c → ∃ c', r.cart = some c' ∧ c'.prg = c.prg ∧ c'.chr = c.chr ∧
        match c.mapper, c'.mapper with
        | .v0, .v0 => True
        | .v1 m, .v1 m' => m'.control = 0x1C ∧ m'.load = 0 ∧ m'.count = 0 ∧ m'.chrLo = 0 ∧ m'.chrHi = 0 ∧ m'.chr8 = 0
            ∧ m'.prg32 = 0 ∧ m'.prgLo = 0 ∧ m'.prgHi = BitVec.ofNat 4 (c.prgBanks.toNat + 255) ∧ m'.ram = m.ram
        | .v2 _, .v2 m' => m'.prgLo = 0 ∧ m'.prgHi = c.prgBanks - 1
        | .v3 _, .v3 m' => m'.chrSel = 0
        | .v4 m, .v4 m' => m'.r = #v[0, 2, 4, 5, 6, 7, 0, 1] ∧ m'.target = 0 ∧ m'.prgMode = false ∧ m'.chrInv = false
            ∧ m'.mirror = .horizontal ∧ m'.irqCounter = 0 ∧ m'.irqReload = 0 ∧ m'.irqEnable = false
            ∧ m'.irqActive = false ∧ m'.ram = m.ram
        | _, _ => False

/-- What the spec says of the state right after reset (R551), with no cartridge inserted (the model's choice, log 1);
`pc` is the word nothing supplies, 0x0000 (R69). The audio unit's values (`lfsr`, the status byte, `tick6`, `frameCtr`)
are the default of the argument `APU_RESET` (R475), which the model chooses for `State.reset` (log 10). -/
def Obligations.ResetState : Prop :=
  State.reset.cpu = { a := 0x00, x := 0x00, y := 0x00, sp := 0xFD, p := 0x20, pc := 0x0000, cycles := 8 }
  ∧ State.reset.bus.n = 0 ∧ State.reset.bus.dmaArmed = false ∧ State.reset.bus.dmaDummy = true
  ∧ State.reset.ppu.ctrl = 0 ∧ State.reset.ppu.mask = 0 ∧ State.reset.ppu.scanline = 0 ∧ State.reset.ppu.dot = 0
  ∧ State.reset.ppu.w = false ∧ State.reset.ppu.nmi = false ∧ State.reset.ppu.v = 0
  ∧ State.reset.apu.noise.lfsr = 1 ∧ State.reset.apu.status = 0x00 ∧ State.reset.apu.tick6 = 0
  ∧ State.reset.apu.frameCtr = 0

/-- R248, R249, R270, R280, R221, R222: returning undoes entering. From a state with B 0 and U 1, `RTI` right after
`BRK` or after an NMI, and `RTS` right after `JSR`, restore the registers and resume where the rules say. -/
def Obligations.ReturnsUndoEntries : Prop :=
  ∀ s : State, flagB s.cpu.p = false → flagU s.cpu.p = true →
    (∃ t u, exec .brk s = .next t ∧ exec .rti t = .next u
      ∧ u.cpu = { s.cpu with pc := s.cpu.pc + 1, cycles := 6 })
    ∧ (∃ u, exec .rti s.nmi = .next u ∧ u.cpu = { s.cpu with cycles := 6 })
    ∧ ∀ a : Addr, ∃ t u, exec (.jsrAbs a) s = .next t ∧ exec .rts t = .next u ∧ u.cpu = { s.cpu with cycles := 6 }

/-! ## Steps -/

/-- A step runs the decoded instruction. In a CPU slot with no transfer armed and `cycles = 0`, when the bytes read at
`PC` in turn decode to `i`, the step is `exec i` on the state those reads leave, `PC` moved past the instruction, then
the count-down of one cycle and the rest of the bus step (R40, R102, R305). The bytes and the state are as they stand
after the picture and audio units were clocked in that step (R306). When the bytes are memory, the reads leave nothing
but the moved `PC`. -/
def Obligations.StepRunsDecodedInstruction : Prop :=
  ∀ (s : State) (i : Instr),
    let u := s.beforeSlot
    u.bus.n % 3 = 0 → u.bus.dmaArmed = false → u.cpu.cycles = 0 →
    decode (takeBytes i.length u).1 = .ok (i, []) →
    step s = andThen (exec i (takeBytes i.length u).2) (fun t => t.countDown.afterSlot)
    ∧ (takeBytes i.length u).2.cpu = { u.cpu with pc := BitVec.ofNat 16 (u.cpu.pc.toNat + i.length) }
    ∧ ((∀ k, k < i.length → readHasEffect (BitVec.ofNat 16 (u.cpu.pc.toNat + k)) = false) →
        takeBytes i.length u = ((List.range i.length).map fun k => u.cpuPeek (BitVec.ofNat 16 (u.cpu.pc.toNat + k)),
          u.setPc (BitVec.ofNat 16 (u.cpu.pc.toNat + i.length))))

/-- R40: an instruction of cost `n` takes effect whole in its first CPU tick, and the ticks after the first only count
down: after `n` ticks, and not before, `Complete()` holds again. The cost is 1 to 8, whatever `ILLEGAL_CYCLES` is (R6;
log 5), and at least 2 for an instruction that is no illegal opcode. -/
def Obligations.InstructionOccupiesItsCycles : Prop :=
  ∀ s : State, s.cpu.cycles = 0 →
    ∃ t, exec s.fetch.instr s.fetch.st = .next t ∧ 1 ≤ t.cpu.cycles ∧ t.cpu.cycles ≤ 8
      ∧ ((∀ op, s.fetch.instr.line.mnem ≠ .ill op) → 2 ≤ t.cpu.cycles)
      ∧ ∀ k, 1 ≤ k → k ≤ t.cpu.cycles →
        ticks k s = .next (t.setCycles (t.cpu.cycles - k))
          ∧ (t.setCycles (t.cpu.cycles - k)).complete = decide (k = t.cpu.cycles)

/-- R261: every step, from every state, goes on. -/
def Obligations.EveryStepGoesOn : Prop := ∀ s : State, s.goesOn

/-- R311: the write that arms a transfer. R310, R312, R313: while a transfer is armed a CPU slot is a DMA slot: the CPU does not advance; the dummy phase
ends in an odd slot; then even slots read from CPU space and odd slots write object memory and move on. -/
def Obligations.DmaSlot : Prop :=
  (∀ (s : State) (v : Byte),
    s.memWrite 0x4014 v = { s with bus := { s.bus with dmaPage := v, dmaAddr := 0x00, dmaArmed := true } })
  ∧ ∀ s : State, s.bus.n % 3 = 0 → s.bus.dmaArmed = true →
    ∃ t, s.slot = .next t ∧ t.cpu = s.cpu
      ∧ (s.bus.dmaDummy = true →
          t = { s with bus := { s.bus with dmaDummy := decide (s.bus.n % 2 = 0) } })
      ∧ (s.bus.dmaDummy = false → s.bus.n % 2 = 0 →
          let r := s.memRead (BitVec.ofNat 16 (s.bus.dmaPage.toNat * 256 + s.bus.dmaAddr.toNat))
          t = { r.st with bus := { r.st.bus with dmaData := r.val } })
      ∧ (s.bus.dmaDummy = false → s.bus.n % 2 = 1 →
          let last := s.bus.dmaAddr.toNat = 255
          t = { s with
            ppu := { s.ppu with oam := Mem.write s.ppu.oam s.bus.dmaAddr.toNat s.bus.dmaData }
            bus := { s.bus with
              dmaAddr := BitVec.ofNat 8 (s.bus.dmaAddr.toNat + 1), dmaArmed := decide ¬last,
              dmaDummy := decide last } })

/-- R315, R316, on whole bus steps: a transfer just armed from a page that is not in device space, in a CPU slot, with
no interrupt possible, ends after 513 CPU slots when the slot is odd and 514 when it is even, having copied the 256
bytes of the page to object memory in order, while the CPU stood still. -/
def Obligations.DmaCopiesThePage : Prop :=
  ∀ s : State, s.bus.n % 3 = 0 → s.bus.dmaArmed = true → s.bus.dmaDummy = true → s.bus.dmaAddr = 0 →
    (s.bus.dmaPage.toNat < 0x20 ∨ 0x41 ≤ s.bus.dmaPage.toNat) → NoInterrupts s →
    ∃ t, core.run (3 * (if s.bus.n % 2 = 1 then 513 else 514)) s = .next t
      ∧ (∀ k, k < 256 → Mem.read t.ppu.oam k = s.cpuPeek (BitVec.ofNat 16 (s.bus.dmaPage.toNat * 256 + k)))
      ∧ t.bus.dmaArmed = false ∧ t.cpu = s.cpu ∧ t.bus.ram = s.bus.ram ∧ t.ppu.oamAddr = s.ppu.oamAddr

/-- Every step keeps the machine's invariant: live B is 0 and U is 1 (R27), `cycles` at most 8, every memory in
canonical form, the raster position on the raster, at most 8 sprites, interrupt latches down between steps (R536), the
audio counters in range and in step with `n` (R440), the audio timing accumulator at least 0 (R307), the noise register
not zero (R458), the DMA dummy flag at rest (R304), the arguments as the spec admits them (R6). -/
def Obligations.StepKeepsInvariant : Prop := ∀ s t : State, s.Inv → step s = .next t → t.Inv

/-- The invariant holds right after reset, with every argument and every memory the spec admits (R6, R410, R475, R552),
the defaults of `State.reset` among them. -/
def Obligations.ResetMeetsInvariant : Prop :=
  State.reset.Inv
  ∧ ∀ (q : Params) (ram oam nt pal frame : Mem), q.Inv → Mem.wf 2048 ram → Mem.wf 256 oam → Mem.wf 2048 nt →
      Mem.wf 32 pal → Mem.wf (256 * 240) frame → (State.launch q ram oam nt pal frame).Inv

/-- Reset from any state that meets it, a loaded image of any bytes, and the other host calls keep the invariant; so
does inserting a cartridge that meets it (R304, R308, R330 to R334). -/
def Obligations.HostCallsKeepInvariant : Prop :=
  (∀ (s : State) (h : HostCall), s.Inv → (∀ c, h = .insertCartridge c → c.Inv) → (s.hostCall h).Inv)
  ∧ ∀ (ramInit : Mem) (image : List Byte) (c : Cart), Mem.wf 8192 ramInit → Cart.build ramInit image = some c → c.Inv

/-! ## Picture unit -/

/-- R345: a STATUS read, at any mirror, returns the three flags and the low five bits of the buffer, and clears
`vblank` and the write toggle; the read-only path returns the same and clears nothing; a write is ignored. -/
def Obligations.StatusRegister : Prop :=
  ∀ (s : State) (a : Addr) (d : Byte), 0x2000 ≤ a.toNat → a.toNat < 0x4000 → a.toNat % 8 = 2 →
    ∃ v : Byte, s.memRead a = ⟨v, { s with ppu := { s.ppu with vblank := false, w := false } }⟩
      ∧ v.getLsbD 7 = s.ppu.vblank ∧ v.getLsbD 6 = s.ppu.zeroHit ∧ v.getLsbD 5 = s.ppu.overflow
      ∧ v.toNat % 32 = s.ppu.dataBuf.toNat % 32 ∧ s.cpuPeek a = v ∧ s.memWrite a d = s

/-- R342 to R344, R346 to R350: CTRL copies two bits to `t`; MASK and OAMADDR store the byte; OAMDATA writes object memory
at `oam_addr`, which moves on modulo 256, and reads it there; SCROLL and ADDR share one write toggle and fill `t` bit by
bit; the second ADDR write copies `t` to `v`. Nothing else changes. The write-only registers read 0x00 with no effect, at
every mirror. -/
def Obligations.ScrollAndAddressWrites : Prop :=
  ∀ (s : State) (d : Byte),
    let t := s.ppu.t
    (∃ t' : BitVec 15, s.memWrite 0x2000 d = { s with ppu := { s.ppu with ctrl := d, t := t' } }
      ∧ ∀ k, t'.getLsbD k = if k = 10 then d.getLsbD 0 else if k = 11 then d.getLsbD 1 else t.getLsbD k)
    ∧ (s.ppu.w = false → ∃ (t' : BitVec 15) (f : BitVec 3),
        s.memWrite 0x2005 d = { s with ppu := { s.ppu with t := t', fineX := f, w := true } }
        ∧ f.toNat = d.toNat % 8 ∧ ∀ k, t'.getLsbD k = if k < 5 then d.getLsbD (k + 3) else t.getLsbD k)
    ∧ (s.ppu.w = true → ∃ t' : BitVec 15,
        s.memWrite 0x2005 d = { s with ppu := { s.ppu with t := t', w := false } }
        ∧ ∀ k, t'.getLsbD k = if 12 ≤ k ∧ k < 15 then d.getLsbD (k - 12)
            else if 5 ≤ k ∧ k < 10 then d.getLsbD (k - 2) else t.getLsbD k)
    ∧ (s.ppu.w = false → ∃ t' : BitVec 15,
        s.memWrite 0x2006 d = { s with ppu := { s.ppu with t := t', w := true } }
        ∧ ∀ k, t'.getLsbD k = if 8 ≤ k then decide (k < 14) && d.getLsbD (k - 8) else t.getLsbD k)
    ∧ (s.ppu.w = true → ∃ t' : BitVec 15,
        s.memWrite 0x2006 d = { s with ppu := { s.ppu with t := t', v := t', w := false } }
        ∧ ∀ k, t'.getLsbD k = if k < 8 then d.getLsbD k else t.getLsbD k)
    ∧ s.memWrite 0x2001 d = { s with ppu := { s.ppu with mask := d } }
    ∧ s.memWrite 0x2003 d = { s with ppu := { s.ppu with oamAddr := d } }
    ∧ s.memWrite 0x2004 d = { s with ppu := { s.ppu with
        oam := Mem.write s.ppu.oam s.ppu.oamAddr.toNat d, oamAddr := BitVec.ofNat 8 (s.ppu.oamAddr.toNat + 1) } }
    ∧ s.memRead 0x2004 = ⟨Mem.read s.ppu.oam s.ppu.oamAddr.toNat, s⟩
    ∧ ∀ a : Addr, 0x2000 ≤ a.toNat → a.toNat < 0x4000 → a.toNat % 8 ∈ [0, 1, 3, 5, 6] → s.memRead a = ⟨0x00, s⟩

/-- R351: DATA. A read returns the old buffer and refills it from the PPU address in `v`, but for a palette address,
which answers at once; a write goes to that address; both add 1 or 32 to `v`, modulo 2^15. The read-only path answers the
same byte (R64, D22; the model's reading of R351 beside them: log 13). -/
def Obligations.DataRegister : Prop :=
  ∀ (s : State) (d : Byte),
    let a : BitVec 14 := BitVec.ofNat 14 s.ppu.v.toNat
    let next : BitVec 15 := BitVec.ofNat 15 (s.ppu.v.toNat + if s.ppu.ctrl.getLsbD 2 then 32 else 1)
    s.memRead 0x2007 = ⟨if 0x3F00 ≤ a.toNat then s.ppuRead a else s.ppu.dataBuf,
        { s with ppu := { s.ppu with dataBuf := s.ppuRead a, v := next } }⟩
    ∧ s.memWrite 0x2007 d = { s.ppuWrite a d with ppu := { (s.ppuWrite a d).ppu with v := next } }
    ∧ s.cpuPeek 0x2007 = if 0x3F00 ≤ a.toNat then s.ppuRead a else s.ppu.dataBuf

/-- R352, R353, R355, R356, R486, R487, R502, R515, R516, R528, R538, R539: what every PPU-space write changes of what
every PPU-space read answers. A palette write changes the entry at all its mirrors and no other, read through the mask; a
nametable write the cell its mirroring mode's table gives, and no other; a pattern write the CHR RAM byte at its offset
under the mapper, and no other, and nothing at all when CHR is not RAM; pattern reads are of CHR at that offset. -/
def Obligations.PpuSpaceReadAfterWrite : Prop :=
  ∀ (s : State) (a b : BitVec 14) (d : Byte),
    let t := s.ppuWrite a d
    (0x3F00 ≤ a.toNat → t.ppuRead b =
      if 0x3F00 ≤ b.toNat ∧ paletteEntry b.toNat = paletteEntry a.toNat then
        d &&& (if s.ppu.mask.getLsbD 0 then 0x30 else 0x3F)
      else s.ppuRead b)
    ∧ (0x2000 ≤ a.toNat → a.toNat < 0x3F00 → t.ppuRead b =
        if (0x2000 ≤ b.toNat ∧ b.toNat < 0x3F00) ∧ nametableCell s b.toNat = nametableCell s a.toNat then d
        else s.ppuRead b)
    ∧ (a.toNat < 0x2000 → 0x2000 ≤ b.toNat → t.ppuRead b = s.ppuRead b)
    ∧ (a.toNat < 0x2000 → (∀ c, s.cart = some c → c.chrBanks ≠ 0) → t = s)
    ∧ (a.toNat < 0x2000 → b.toNat < 0x2000 → ∀ c, s.cart = some c → c.chrBanks = 0 → t.ppuRead b =
        if chrOffsetOf c a.toNat < 8192 ∧ chrOffsetOf c b.toNat = chrOffsetOf c a.toNat then d else s.ppuRead b)
    ∧ (b.toNat < 0x2000 → ∀ c, s.cart = some c → s.ppuRead b =
        if chrOffsetOf c b.toNat < max c.chrBanks.toNat 1 * 8192 then Mem.read c.chr (chrOffsetOf c b.toNat) else 0)
    ∧ (b.toNat < 0x2000 → s.cart = none → s.ppuRead b = 0)

/-- R360, R362, R582: every bus step moves the raster by one dot, whatever the CPU does, through 262 lines of 341 dots:
after `k` steps the position is `k` further modulo 89342. -/
def Obligations.RasterAdvancesOneDotAStep : Prop :=
  ∀ (k : Nat) (s t : State), OnRaster s → core.run k s = .next t →
    OnRaster t ∧ rasterPos t = (rasterPos s + k) % 89342

/-- R400, R401, R403, R362, for one dot of the picture unit: `vblank` is set at (241, 1) and the NMI latch raised there
when enabled; (-1, 1) clears `vblank`, `zero_hit`, `overflow`, `sprite_count` and `zero_possible`; evaluation gives the last
three at dot 257 of the picture's lines; `zero_hit` moves otherwise only in a visible dot; `frame_complete` is set at the
wrap. R371 to R374: what the dot makes of `v`. Every bus step is such a dot (R305). The registers the CPU writes, object memory, nametables and palette stay. -/
def Obligations.VblankFlagTiming : Prop :=
  (∀ s : State, s.beforeSlot.ppu = s.ppu.clock s.ppuRead s.params.leftClip)
  ∧ ∀ (u : Ppu) (rd : BitVec 14 → Byte) (clip : Bool),
    let e := u.clock rd clip
    let clears := u.scanline = -1 ∧ u.dot = 1
    let evaluates := OnPicture u ∧ u.dot = 257
    let found := u.evaluateSprites u.scanline
    e.vblank = (if u.scanline = 241 ∧ u.dot = 1 then true else if u.scanline = -1 ∧ u.dot = 1 then false else u.vblank)
    ∧ e.nmi = (u.nmi || (decide (u.scanline = 241 ∧ u.dot = 1) && u.ctrl.getLsbD 7))
    ∧ (clears → e.zeroHit = false ∧ e.overflow = false ∧ e.spriteCount = 0 ∧ e.zeroPossible = false)
    ∧ (evaluates → e.overflow = found.overflow ∧ e.spriteCount = found.spriteCount ∧ e.zeroPossible = found.zeroPossible)
    ∧ (¬clears → ¬evaluates →
        e.overflow = u.overflow ∧ e.spriteCount = u.spriteCount ∧ e.zeroPossible = u.zeroPossible)
    ∧ (¬clears → ¬(OnPicture u ∧ 1 ≤ u.dot ∧ u.dot ≤ 256) → e.zeroHit = u.zeroHit)
    ∧ e.frameComplete = (u.frameComplete || decide (u.scanline = 260 ∧ u.dot = 340))
    ∧ ScrollMoves u e
    ∧ e.ctrl = u.ctrl ∧ e.mask = u.mask ∧ e.t = u.t ∧ e.fineX = u.fineX ∧ e.w = u.w ∧ e.dataBuf = u.dataBuf
    ∧ e.oamAddr = u.oamAddr ∧ e.oam = u.oam ∧ e.nt = u.nt ∧ e.pal = u.pal

/-- R380: evaluation selects what the loop over the 64 entries selects: the first eight that qualify, in
object-memory order; sprite zero is possible when entry 0 qualifies; overflow is set when more than 8 qualify and is
sticky. R381, R382, R401: what one dot makes of the slots, evaluation among it. -/
def Obligations.SpriteEvaluationIsTheLoop : Prop :=
  (∀ (u : Ppu) (rd : BitVec 14 → Byte) (clip : Bool), SpritesMove u rd (u.clock rd clip))
  ∧ ∀ (u : Ppu) (line : Int),
    let r := (List.range 64).foldl (evaluateEntry u line) ([], false, 0)
    let e := u.evaluateSprites line
    e.spriteCount = r.1.length ∧ e.spriteCount ≤ 8 ∧ e.zeroPossible = r.2.1
    ∧ e.overflow = (u.overflow || decide (8 < r.2.2))
    ∧ ∀ k (h : k < 8), e.slots[k] = r.1.getD k { y := 0xFF, id := 0xFF, attr := 0xFF, x := 0xFF, lo := 0, hi := 0 }

/-- R390 to R395, for one visible dot: the background pixel and palette at the bit `fine_x` selects; the first opaque
sprite at its X position in slot order, with its palette and priority; the precedence table; the sprite-zero hit in its
window (sticky); and the 6-bit palette entry written at `(dot - 1, scanline)` and nowhere else. A clock does this in the
visible dots, after the dot's shifts and loads (R360, R382), and draws in no other. R366 to R370: what a clock makes of the
background registers. -/
def Obligations.CompositingOfADot : Prop :=
  (∀ (u : Ppu) (rd : BitVec 14 → Byte) (clip : Bool),
    let e := u.clock rd clip
    let visible := OnPicture u ∧ 1 ≤ u.dot ∧ u.dot ≤ 256
    let drawn := { e with frame := u.frame, zeroHit := u.zeroHit }.composite rd clip u.scanline u.dot
    BackgroundMoves u rd e
    ∧ (visible → e.frame = drawn.frame ∧ e.zeroHit = drawn.zeroHit)
    ∧ (¬visible → e.frame = u.frame))
  ∧ ∀ (u : Ppu) (rd : BitVec 14 → Byte) (clip : Bool) (line d : Nat), line < 240 → 1 ≤ d → d ≤ 256 →
    let shown := fun on left : Bool => on = true ∧ (clip = false ∨ left = true ∨ 9 ≤ d)
    let plane := fun hi lo : Bool => 2 * hi.toNat + lo.toNat
    let k := 15 - u.fineX.toNat
    let spritePx := fun i : Fin 8 => plane (u.slots[i].hi.getLsbD 7) (u.slots[i].lo.getLsbD 7)
    let drawn := fun i : Fin 8 => i.val < u.spriteCount ∧ u.slots[i].x.toNat = 0 ∧ 0 < spritePx i
    let bg := u.bgPixel clip d
    let fg := u.fgPixel clip d
    let win := if bg.px = 0 then (if fg.pixel.px = 0 then (0, 0) else (fg.pixel.px, fg.pixel.pal))
      else if fg.pixel.px = 0 then (bg.px, bg.pal)
      else if fg.front then (fg.pixel.px, fg.pixel.pal) else (bg.px, bg.pal)
    let e := u.composite rd clip line d
    (bg.px.toNat, bg.pal.toNat) = (if shown (u.mask.getLsbD 3) (u.mask.getLsbD 1) then
        (plane (u.bgHi.getLsbD k) (u.bgLo.getLsbD k), plane (u.bgAtHi.getLsbD k) (u.bgAtLo.getLsbD k))
      else (0, 0))
    ∧ (∀ i, shown (u.mask.getLsbD 4) (u.mask.getLsbD 2) → drawn i → (∀ j, j < i → ¬drawn j) →
        fg.pixel.px.toNat = spritePx i ∧ fg.pixel.pal.toNat = u.slots[i].attr.toNat % 4 + 4
          ∧ fg.front = !u.slots[i].attr.getLsbD 5 ∧ fg.zeroDrawn = decide (i = 0))
    ∧ ((¬shown (u.mask.getLsbD 4) (u.mask.getLsbD 2) ∨ ∀ i, ¬drawn i) → fg.pixel.px = 0 ∧ fg.zeroDrawn = false)
    ∧ (∀ x y, x < 256 → y < 240 → Mem.read e.frame (256 * y + x) =
      if x = d - 1 ∧ y = line then rd (BitVec.ofNat 14 (0x3F00 + 4 * win.2.toNat + win.1.toNat)) &&& 0x3F
      else Mem.read u.frame (256 * y + x))
    ∧ (e.zeroHit = true ↔ u.zeroHit = true ∨
        (bg.px ≠ 0 ∧ fg.pixel.px ≠ 0 ∧ u.zeroPossible = true ∧ fg.zeroDrawn = true ∧ u.mask.getLsbD 3 = true
          ∧ u.mask.getLsbD 4 = true ∧ ((u.mask.getLsbD 1 = true ∧ u.mask.getLsbD 2 = true) ∨ 9 ≤ d)))

/-! ## Cartridge, audio unit, controllers -/

/-- R512, R532, R500, R520, R525, R494: where each variant finds the byte of a CPU address from 0x8000 on. -/
def Obligations.BankMath : Prop :=
  ∀ (c : Cart) (a : Addr), 0x8000 ≤ a.toNat →
    let n := a.toNat
    ∃ offset, c.cpuMapRead a = .offset offset
      ∧ c.cpuRead a = some (if offset < c.prgBanks.toNat * 16384 then Mem.read c.prg offset else 0)
      ∧ match c.mapper with
        | .v0 | .v3 _ => offset = n % (if 1 < c.prgBanks.toNat then 0x8000 else 0x4000)
        | .v1 m => offset = if m.control.getLsbD 3 then
              (if n < 0xC000 then m.prgLo.toNat else m.prgHi.toNat) * 0x4000 + n % 0x4000
            else m.prg32.toNat * 0x8000 + n % 0x8000
        | .v2 m => offset = (if n < 0xC000 then m.prgLo.toNat else m.prgHi.toNat) * 0x4000 + n % 0x4000
        | .v4 m => 0 < c.prgBanks.toNat →
            let last := c.prgBanks.toNat * 2 - 1
            let bank := if n < 0xA000 then (if m.prgMode then last - 1 else m.r[6].toNat % 64)
              else if n < 0xC000 then m.r[7].toNat % 64
              else if n < 0xE000 then (if m.prgMode then m.r[6].toNat % 64 else last - 1)
              else last
            offset = bank * 0x2000 + n % 0x2000

/-- R513, R514: with the shift register empty, five writes of any bytes with bit 7 clear, at any five addresses, load the
5-bit value of their bits 0, least significant bit first, and commit it to the register the FIFTH address selects; a write
with bit 7 set empties the shift register at any point; and every CPU write from 0x8000 on is such a write. R500, R522,
R527, R533, R534, R537: what it does under the other variants. -/
def Obligations.SerialRegisterLoad : Prop :=
  (∀ (m : Mapper1) (pb : Byte) (a : Fin 5 → Addr) (d : Fin 5 → Byte) (x : BitVec 5), m.count = 0 →
    (∀ k, (d k).getLsbD 7 = false ∧ (d k).getLsbD 0 = x.getLsbD k) →
      let e : Mapper1 := { m with load := 0, count := 0 }
      let mode := m.control.toNat / 4 % 4
      serialWrites m pb a d =
        match (a 4).toNat / 0x2000 % 4 with
        | 0 => { e with control := x }
        | 1 => if m.control.getLsbD 4 then { e with chrLo := x } else { e with chr8 := x &&& 0x1E }
        | 2 => if m.control.getLsbD 4 then { e with chrHi := x } else e
        | _ =>
          if mode < 2 then { e with prg32 := BitVec.ofNat 3 (x.toNat / 2) }
          else if mode = 2 then { e with prgLo := 0, prgHi := BitVec.ofNat 4 x.toNat }
          else { e with prgLo := BitVec.ofNat 4 x.toNat, prgHi := BitVec.ofNat 4 (pb.toNat + 255) })
  ∧ (∀ (m : Mapper1) (pb : Byte) (a : Addr) (d : Byte), d.getLsbD 7 = true →
      m.serialWrite pb a d = { m with load := 0, count := 0, control := m.control ||| 0x0C })
  ∧ ∀ (s : State) (c : Cart) (a : Addr) (d : Byte), s.cart = some c → 0x8000 ≤ a.toNat →
      s.memWrite a d = { s with cart := some { c with mapper := mapperAfterWrite c a d } }

/-- R402: the mapper's `Scanline()` is called in the bus step of dot 260 of scanlines -1 to 239 exactly when rendering is
enabled, once, and only variant 4 reacts. R535: what the call does; with reload value `N`, interrupts enabled and the
counter at 0, the flag is raised by the `N + 1`st call and by none before it, and the counter is then at 0 again. -/
def Obligations.ScanlineIrqPeriod : Prop :=
  (∀ s : State, -1 ≤ s.ppu.scanline →
    let called := renders s.ppu ∧ OnLine s.ppu ∧ s.ppu.dot = 260
    (called → ∀ c m, s.cart = some c → c.mapper = .v4 m →
      let counter := if m.irqCounter.toNat = 0 then m.irqReload else BitVec.ofNat 8 (m.irqCounter.toNat - 1)
      s.beforeSlot.cart = some { c with mapper := .v4 { m with
        irqCounter := counter, irqActive := m.irqActive || (m.irqEnable && decide (counter.toNat = 0)) } })
    ∧ (called → (∀ c, s.cart = some c → c.mapper.variant ≠ 4) → s.beforeSlot.cart = s.cart)
    ∧ (¬called → s.beforeSlot.cart = s.cart))
  ∧ ∀ m : Mapper4, m.irqCounter = 0 → m.irqEnable = true → m.irqActive = false →
    ∀ k, k ≤ m.irqReload.toNat + 1 →
      let m' := Mapper4.scanline^[k] m
      (m'.irqActive = true ↔ k = m.irqReload.toNat + 1) ∧ (k = m.irqReload.toNat + 1 → m'.irqCounter = 0)
        ∧ m' = { m with irqCounter := m'.irqCounter, irqActive := m'.irqActive }

/-- R481 to R484, R493, R510, R530: what an image builds, byte for byte, with cartridge RAM at the argument
`CART_RAM_INIT` (R6), and which images build nothing. -/
def Obligations.ImageLayout : Prop :=
  ∀ (ramInit : Mem) (image : List Byte),
    let byte := fun k : Nat => image.getD k 0
    let id := (byte 7).toNat / 16 * 16 + (byte 6).toNat / 16
    let data := if (byte 6).getLsbD 2 then 528 else 16
    (4 < id → Cart.build ramInit image = none)
    ∧ (id ≤ 4 → ∃ c, Cart.build ramInit image = some c ∧ c.prgBanks = byte 4 ∧ c.chrBanks = byte 5
        ∧ c.mapperId.toNat = id ∧ c.mapper.variant = id
        ∧ c.hwMirror = (if (byte 6).getLsbD 0 then .vertical else .horizontal)
        ∧ (∀ k, k < (byte 4).toNat * 16384 → Mem.read c.prg k = byte (data + k))
        ∧ (∀ k, k < (byte 5).toNat * 8192 → Mem.read c.chr k = byte (data + (byte 4).toNat * 16384 + k))
        ∧ (byte 5 = 0 → c.chrIsRam = true ∧ c.chr = [])
        ∧ (∀ m, c.mapper = .v1 m → m.ram = ramInit) ∧ ∀ m, c.mapper = .v4 m → m.ram = ramInit)

/-- R320, R321: after the strobe, the `k`th read of a port answers bit `7 - k` of the host's byte in bit 0, and 0x00
from the ninth read on; reads of one port leave the other's latch alone. -/
def Obligations.ControllersShiftOut : Prop :=
  ∀ (s : State) (v : Byte) (k : Nat),
    let t := s.memWrite 0x4016 v
    t = { s with bus := { s.bus with padShift0 := s.bus.padIn0, padShift1 := s.bus.padIn1 } }
    ∧ ((readTimes 0x4016 k t).memRead 0x4016).val = padStream s.bus.padIn0 k
    ∧ ((readTimes 0x4017 k t).memRead 0x4017).val = padStream s.bus.padIn1 k
    ∧ (readTimes 0x4016 k t).bus.padShift1 = s.bus.padIn1
    ∧ (readTimes 0x4017 k t).bus.padShift0 = s.bus.padIn0

/-- R430, R432, R426, R429, R447, R451: the enable mask zeroes the length of a disabled channel and keeps the others;
the length registers load a length while their channel is enabled and only then, and restart the envelope (a pulse
channel's waveform and timer too); 0x4015 reads which lengths are not zero and changes nothing. R423 to R425, R427, R428:
the other registers store their fields and change nothing else. -/
def Obligations.AudioStatusAndLengths : Prop :=
  ∀ (s : State) (d : Byte),
    s.memWrite 0x4000 d = { s with apu := { s.apu with pulse1 := pulseControl s.apu.pulse1 d } }
    ∧ s.memWrite 0x4001 d = { s with apu := { s.apu with pulse1 := pulseSweep s.apu.pulse1 d } }
    ∧ s.memWrite 0x4002 d = { s with apu := { s.apu with pulse1 := pulsePeriodLow s.apu.pulse1 d } }
    ∧ s.memWrite 0x4004 d = { s with apu := { s.apu with pulse2 := pulseControl s.apu.pulse2 d } }
    ∧ s.memWrite 0x4005 d = { s with apu := { s.apu with pulse2 := pulseSweep s.apu.pulse2 d } }
    ∧ s.memWrite 0x4006 d = { s with apu := { s.apu with pulse2 := pulsePeriodLow s.apu.pulse2 d } }
    ∧ s.memWrite 0x400C d = { s with apu := { s.apu with noise := { s.apu.noise with
        halt := d.getLsbD 5
        env := { s.apu.noise.env with constant := d.getLsbD 4, volume := BitVec.ofNat 4 (d.toNat % 16) } } } }
    ∧ s.memWrite 0x400E d = { s with apu := { s.apu with noise := { s.apu.noise with
        periodIndex := BitVec.ofNat 4 (d.toNat % 16) } } }
    ∧ s.memWrite 0x4015 d = { s with apu := { s.apu with
        pulse1 := { s.apu.pulse1 with
          enabled := d.getLsbD 0, length := if d.getLsbD 0 then s.apu.pulse1.length else 0 }
        pulse2 := { s.apu.pulse2 with
          enabled := d.getLsbD 1, length := if d.getLsbD 1 then s.apu.pulse2.length else 0 }
        noise := { s.apu.noise with
          enabled := d.getLsbD 3, length := if d.getLsbD 3 then s.apu.noise.length else 0 } } }
    ∧ (s.memRead 0x4015).st = s
    ∧ (∀ k, (s.memRead 0x4015).val.getLsbD k =
        ((k == 0 && s.apu.pulse1.length != 0) || (k == 1 && s.apu.pulse2.length != 0)
          || (k == 3 && s.apu.noise.length != 0)))
    ∧ (let t := s.memWrite 0x4003 d
       t = { s with apu := { s.apu with pulse1 := t.apu.pulse1 } } ∧ PulseRestarts s.apu.pulse1 d t.apu.pulse1)
    ∧ (let t := s.memWrite 0x4007 d
       t = { s with apu := { s.apu with pulse2 := t.apu.pulse2 } } ∧ PulseRestarts s.apu.pulse2 d t.apu.pulse2)
    ∧ (let t := s.memWrite 0x400F d
       t = { s with apu := { s.apu with noise := { s.apu.noise with
           length := t.apu.noise.length, env := { s.apu.noise.env with start := true } } } }
       ∧ LengthLoaded s.apu.noise.enabled s.apu.noise.length d t.apu.noise.length)

/-- R450, R455, R456: one tick of a pulse timer and of the noise timer: it counts down, and at 0 is reloaded, the pulse
waveform turning right by one, the noise register shifting right with the exclusive or of its low two bits entering at the
top; and a pulse channel's waveform repeats every `8 * (period + 1)` audio ticks. -/
def Obligations.PulseWaveformPeriod : Prop :=
  (∀ p : Pulse, let e := p.timerTick
    (0 < p.timer.toNat → e = { p with timer := BitVec.ofNat 11 (p.timer.toNat - 1) })
    ∧ (p.timer.toNat = 0 →
        e = { p with timer := p.period, seq := BitVec.ofNat 8 (128 * (p.seq.toNat % 2) + p.seq.toNat / 2) }))
  ∧ (∀ z : Noise, let e := z.timerTick
    (0 < z.timer.toNat → e = { z with timer := BitVec.ofNat 12 (z.timer.toNat - 1) })
    ∧ (z.timer.toNat = 0 → e = { z with timer := e.timer, lfsr := e.lfsr }
        ∧ e.timer.toNat = noisePeriods.getD z.periodIndex.toNat 0 / 2 - 1
        ∧ e.lfsr.getLsbD 14 = (z.lfsr.getLsbD 0 ^^ z.lfsr.getLsbD 1)
        ∧ ∀ k < 14, e.lfsr.getLsbD k = z.lfsr.getLsbD (k + 1)))
  ∧ ∀ p : Pulse, p.timer.toNat ≤ p.period.toNat → Pulse.timerTick^[8 * (p.period.toNat + 1)] p = p

/-- R445, R446, R448: the envelope's output stays a 4-bit value that starts at 15 and counts down to 0 or loops, a
length counts down to 0 and stops; a sweep never leaves the 11-bit range, its divider counts down and is reloaded at 0 or
when the reload flag is up, which that clears, and nothing else of the channel changes. R307, on real numbers: a bus step
adds `t_step` to `audio_time`, and a sample is ready, and `t_sample` taken off, when the sum is at least `t_sample`. R440
to R443: every bus step moves `tick6` on, and when that is 0 moves the frame sequencer on through its 14916 ticks, clocks
envelopes at its quarter and lengths and sweeps at its half milestones, and then the three timers. -/
def Obligations.EnvelopeLengthSweep : Prop :=
  (∀ s : State,
    let u := s.apu
    let c := u.frameCtr + 1
    (u.tick6 = 0 → s.beforeSlot.apu =
      { pulse1 := pulseTick c true u.pulse1, pulse2 := pulseTick c false u.pulse2, noise := noiseTick c u.noise
        frameCtr := if c = 14916 then 0 else c, tick6 := 1 })
    ∧ (u.tick6 ≠ 0 → s.beforeSlot.apu = { u with tick6 := (u.tick6 + 1) % 6 })
    ∧ ∃ t, s.beforeSlot.slot = .next t ∧ step s = .next t.afterSlot ∧ t.afterSlot.apu = t.apu
      ∧ (s.bus.n % 3 ≠ 0 → t = s.beforeSlot))
  ∧ (∀ (e : Envelope) (loop : Bool), e.start = false → e.divider = 0 →
      (e.clock loop).decay.toNat = (if 0 < e.decay.toNat then e.decay.toNat - 1 else if loop then 15 else 0)
        ∧ (e.clock loop).divider = e.volume)
  ∧ (∀ (e : Envelope) (loop : Bool), e.start = true →
      e.clock loop = { e with start := false, decay := 15, divider := e.volume })
  ∧ (∀ (e : Envelope) (loop : Bool), e.start = false → e.divider ≠ 0 →
      (e.clock loop).decay = e.decay ∧ (e.clock loop).divider.toNat = e.divider.toNat - 1)
  ∧ (∀ (halt : Bool) (n : Byte), (lengthClock halt n).toNat = if halt then n.toNat else n.toNat - 1)
  ∧ (∀ (p : Pulse) (first : Bool),
      let change := p.period.toNat / 2 ^ p.sw.shift.toNat
      let target := if p.sw.negate then (p.period.toNat : Int) - change - (if first then 1 else 0)
        else (p.period.toNat : Int) + change
      (p.sweepTarget first : Int) = max target 0
      ∧ (p.sweepMute first = true ↔ p.period.toNat < 8 ∨ 0x7FF < max target 0)
      ∧ ((p.sweepClock first).period.toNat : Int) =
          (if p.sw.divider = 0 ∧ p.sw.enable = true ∧ p.sw.shift ≠ 0 ∧ 8 ≤ p.period.toNat ∧ target ≤ 0x7FF then
            max target 0 else p.period.toNat)
      ∧ (p.sweepClock first).sw =
          (if p.sw.divider = 0 ∨ p.sw.reload = true then { p.sw with divider := p.sw.period, reload := false }
          else { p.sw with divider := BitVec.ofNat 3 (p.sw.divider.toNat - 1) })
      ∧ p.sweepClock first = { p with period := (p.sweepClock first).period, sw := (p.sweepClock first).sw })
  ∧ ∀ s : State,
      let real := fun x : AudioTime => x.value namedReal
      let time := real s.bus.audioTime + s.params.tStep.value
      let t := s.audioTick
      0 < s.params.tStep.value ∧ 0 < s.params.tSample.value
      ∧ (s.params.tSample.value ≤ time → real t.bus.audioTime = time - s.params.tSample.value
          ∧ t = { s with bus := { s.bus with
              audioTime := t.bus.audioTime, sample := s.apu.outputSample, sampleReady := true } })
      ∧ (time < s.params.tSample.value → real t.bus.audioTime = time
          ∧ t = { s with bus := { s.bus with audioTime := t.bus.audioTime, sampleReady := false } })
end

