-- ==== Sys2Proof/Laws/AudioTime.lean ====
section
/-! SUPPORT. The operations on sums of host reals are those of the real numbers, and keep the canonical form. -/

namespace Sys2Proof

@[simp] theorem AudioTime.value_zero (v : Nat → ℝ) : AudioTime.zero.value v = 0 := by
  simp [AudioTime.value, AudioTime.zero]

/-- The named reals are positive. -/
theorem namedReal_pos (k : Nat) : 0 < namedReal k := by
  unfold namedReal
  cases Config.hostReals with
  | none => exact one_pos
  | some o => exact o.pos k

/-- Every host real is positive (R307). -/
theorem HostReal.value_pos (r : HostReal) : 0 < r.value := by
  cases r with
  | whole n => exact Nat.cast_pos.mpr n.pos
  | named k => exact namedReal_pos k

theorem sum_addNamed (v : Nat → ℝ) (k : Nat) (c : Int) (l : List (Nat × Int)) :
    ((addNamed k c l).map fun x => (x.2 : ℝ) * v x.1).sum = (l.map fun x => (x.2 : ℝ) * v x.1).sum + c * v k := by
  induction l with
  | nil => simp [addNamed]
  | cons x l ih =>
    obtain ⟨j, d⟩ := x
    unfold addNamed
    split
    · simp only [List.map_cons, List.sum_cons]; ring
    split
    · next h =>
      subst h
      split
      · next h0 =>
        have : (d : ℝ) = -c := by exact_mod_cast eq_neg_of_add_eq_zero_left h0
        simp only [List.map_cons, List.sum_cons, this]; ring
      · simp only [List.map_cons, List.sum_cons, Int.cast_add]; ring
    · simp only [List.map_cons, List.sum_cons, ih]; ring

/-- `plus` adds the multiple of the host real. -/
@[simp] theorem AudioTime.value_plus (t : AudioTime) (c : Int) (r : HostReal) :
    (t.plus c r).value namedReal = t.value namedReal + c * r.value := by
  cases r with
  | whole n =>
    simp only [AudioTime.value, AudioTime.plus, HostReal.value, Int.cast_add, Int.cast_mul, Int.cast_natCast]
    ring
  | named k =>
    simp only [AudioTime.value, AudioTime.plus, HostReal.value, sum_addNamed]
    ring

/-- `nonneg` says whether the real number is at least 0. -/
theorem AudioTime.nonneg_iff (t : AudioTime) : t.nonneg = true ↔ 0 ≤ t.value namedReal := by
  obtain ⟨w, l⟩ := t
  cases l with
  | nil => simp [AudioTime.nonneg, AudioTime.value]
  | cons x l =>
    unfold AudioTime.nonneg namedReal
    cases Config.hostReals with
    | some o => exact o.spec _
    | none =>
      have sum : ∀ l : List (Nat × Int), (l.map fun y => (y.2 : ℝ)).sum = ((l.map (·.2)).sum : Int) := by
        intro l
        induction l with
        | nil => simp
        | cons y l ih => simp [ih]
      simp only [AudioTime.value, mul_one, sum, decide_eq_true_eq]
      exact_mod_cast Iff.rfl

@[simp] theorem AudioTime.nonneg_zero : AudioTime.zero.nonneg = true := rfl

/-- Adding a host real keeps a sum at least 0. -/
theorem AudioTime.nonneg_plus_one {t : AudioTime} (h : t.nonneg = true) (r : HostReal) : (t.plus 1 r).nonneg = true := by
  rw [AudioTime.nonneg_iff] at h ⊢
  have := r.value_pos
  rw [AudioTime.value_plus, Int.cast_one, one_mul]
  positivity

/-- Every entry of a sum after `addNamed` is the new one or was there under its name. -/
theorem mem_addNamed {k : Nat} {c : Int} {l : List (Nat × Int)} {x : Nat × Int} (h : x ∈ addNamed k c l) :
    x.1 = k ∨ x ∈ l := by
  induction l with
  | nil => exact .inl (by simp_all [addNamed])
  | cons y l ih =>
    obtain ⟨j, d⟩ := y
    unfold addNamed at h
    split at h
    · rcases List.mem_cons.mp h with rfl | h
      · exact .inl rfl
      · exact .inr h
    split at h
    · next hk =>
      split at h
      · exact .inr (List.mem_cons_of_mem _ h)
      · rcases List.mem_cons.mp h with rfl | h
        · exact .inl hk.symm
        · exact .inr (List.mem_cons_of_mem _ h)
    · rcases List.mem_cons.mp h with rfl | h
      · exact .inr (List.mem_cons_self ..)
      · exact (ih h).imp id (List.mem_cons_of_mem _)

theorem addNamed_wf {k : Nat} {c : Int} (hc : c ≠ 0) {l : List (Nat × Int)}
    (h : l.Pairwise (fun x y => x.1 < y.1) ∧ ∀ x ∈ l, x.2 ≠ 0) :
    (addNamed k c l).Pairwise (fun x y => x.1 < y.1) ∧ ∀ x ∈ addNamed k c l, x.2 ≠ 0 := by
  induction l with
  | nil => simpa [addNamed] using hc
  | cons y l ih =>
    obtain ⟨j, d⟩ := y
    obtain ⟨hp, hz⟩ := h
    obtain ⟨hj, hp'⟩ := List.pairwise_cons.mp hp
    have hz' : ∀ x ∈ l, x.2 ≠ 0 := fun x hx => hz x (List.mem_cons_of_mem _ hx)
    unfold addNamed
    split
    · next hk =>
      refine ⟨List.pairwise_cons.mpr ⟨fun x hx => ?_, hp⟩, List.forall_mem_cons.mpr ⟨hc, hz⟩⟩
      rcases List.mem_cons.mp hx with rfl | hx
      · exact hk
      · exact hk.trans (hj x hx)
    split
    · split
      · exact ⟨hp', hz'⟩
      · next h0 => exact ⟨List.pairwise_cons.mpr ⟨hj, hp'⟩, List.forall_mem_cons.mpr ⟨h0, hz'⟩⟩
    · obtain ⟨ip, iz⟩ := ih ⟨hp', hz'⟩
      refine ⟨List.pairwise_cons.mpr ⟨fun x hx => ?_, ip⟩,
        List.forall_mem_cons.mpr ⟨hz (j, d) (List.mem_cons_self ..), iz⟩⟩
      rcases mem_addNamed hx with hk | hx
      · rw [hk]; exact lt_of_le_of_ne (not_lt.mp ‹_›) (Ne.symm ‹_›)
      · exact hj x hx

@[simp] theorem AudioTime.wf_zero : AudioTime.zero.wf := ⟨.nil, fun _ h => nomatch h⟩

/-- Adding a multiple that is not 0 keeps the canonical form. -/
theorem AudioTime.wf_plus {t : AudioTime} (h : t.wf) {c : Int} (hc : c ≠ 0) (r : HostReal) : (t.plus c r).wf := by
  cases r with
  | whole n => exact h
  | named k => exact addNamed_wf hc h

end Sys2Proof
end

