-- ==== Sys2Proof/Laws/Memory.lean ====
section
/-! SUPPORT. Memories: a read after a write, and the canonical form that every memory operation keeps. -/

namespace Sys2Proof.Machine

@[simp] theorem Mem.read_nil (k : Nat) : Mem.read [] k = 0 := rfl

theorem Mem.read_drop_same (m : Mem) (k : Nat) : Mem.read (Mem.drop m k) k = 0 := by
  induction m with
  | nil => rfl
  | cons c m ih =>
    obtain ⟨j, b⟩ := c
    by_cases h : j = k
    · simpa [Mem.drop, h] using ih
    · simpa [Mem.drop, Mem.read, h] using ih

theorem Mem.read_drop_other (m : Mem) {j k : Nat} (h : j ≠ k) : Mem.read (Mem.drop m k) j = Mem.read m j := by
  induction m with
  | nil => rfl
  | cons c m ih =>
    obtain ⟨i, b⟩ := c
    by_cases hi : i = k
    · simpa [Mem.drop, Mem.read, hi, h.symm] using ih
    · by_cases hj : i = j
      · simp [Mem.drop, Mem.read, hj, h]
      · simpa [Mem.drop, Mem.read, hi, hj] using ih

theorem Mem.read_place_same (m : Mem) (k : Nat) (v : Byte) (h : ∀ c ∈ m, c.1 ≠ k) :
    Mem.read (Mem.place k v m) k = v := by
  induction m with
  | nil => simp [Mem.place, Mem.read]
  | cons c m ih =>
    obtain ⟨j, b⟩ := c
    have hj : j ≠ k := h (j, b) (by simp)
    unfold Mem.place
    split
    · simp [Mem.read]
    · simpa [Mem.read, hj] using ih fun c hc => h c (by simp [hc])

theorem Mem.read_place_other (m : Mem) {j k : Nat} (v : Byte) (h : j ≠ k) :
    Mem.read (Mem.place k v m) j = Mem.read m j := by
  induction m with
  | nil => simp [Mem.place, Mem.read, h.symm]
  | cons c m ih =>
    obtain ⟨i, b⟩ := c
    unfold Mem.place
    split
    · simp [Mem.read, h.symm]
    · by_cases hi : i = j
      · simp [Mem.read, hi]
      · simpa [Mem.read, hi] using ih

theorem Mem.mem_drop {m : Mem} {k : Nat} {c : Host.Cell} : c ∈ Mem.drop m k ↔ c ∈ m ∧ c.1 ≠ k := by
  simp [Mem.drop]

/-- A read after a write to the same index gives the value written. -/
@[simp] theorem Mem.read_write_same (m : Mem) (k : Nat) (v : Byte) : Mem.read (Mem.write m k v) k = v := by
  unfold Mem.write
  split
  · next h => rw [h]; exact Mem.read_drop_same m k
  · exact Mem.read_place_same _ _ _ fun c hc => (Mem.mem_drop.mp hc).2

/-- A write leaves every other index alone. -/
theorem Mem.read_write_other (m : Mem) {j k : Nat} (v : Byte) (h : j ≠ k) :
    Mem.read (Mem.write m k v) j = Mem.read m j := by
  unfold Mem.write
  split
  · exact Mem.read_drop_other m h
  · rw [Mem.read_place_other _ v h, Mem.read_drop_other m h]

/-- Every read after a write. -/
theorem Mem.read_write (m : Mem) (j k : Nat) (v : Byte) :
    Mem.read (Mem.write m k v) j = if j = k then v else Mem.read m j := by
  split
  · next h => rw [h, Mem.read_write_same]
  · next h => exact Mem.read_write_other m v h

/-! ## The canonical form -/

theorem Mem.wf_nil (size : Nat) : Mem.wf size [] := ⟨List.Pairwise.nil, by simp⟩

theorem Mem.wf_drop {size : Nat} {m : Mem} (k : Nat) (h : Mem.wf size m) : Mem.wf size (Mem.drop m k) :=
  ⟨h.1.filter _, fun c hc => h.2 c (Mem.mem_drop.mp hc).1⟩

theorem Mem.mem_place {m : Mem} {k : Nat} {v : Byte} {c : Host.Cell} :
    c ∈ Mem.place k v m ↔ c = (k, v) ∨ c ∈ m := by
  induction m with
  | nil => simp [Mem.place]
  | cons d m ih =>
    unfold Mem.place
    split
    · simp
    · simp only [List.mem_cons, ih]
      constructor <;> rintro (h | h | h) <;> simp [h]

theorem Mem.wf_place {size : Nat} {m : Mem} {k : Nat} {v : Byte} (hk : k < size) (hv : v ≠ 0) (h : Mem.wf size m)
    (hm : ∀ c ∈ m, c.1 ≠ k) : Mem.wf size (Mem.place k v m) := by
  refine ⟨?_, fun c hc => ?_⟩
  · obtain ⟨hp, -⟩ := h
    induction m with
    | nil => simp [Mem.place]
    | cons d m ih =>
      obtain ⟨j, b⟩ := d
      rw [List.pairwise_cons] at hp
      have hj : j ≠ k := hm (j, b) (by simp)
      unfold Mem.place
      split
      · next hlt =>
        refine List.pairwise_cons.mpr ⟨fun c hc => ?_, List.pairwise_cons.mpr hp⟩
        rcases List.mem_cons.mp hc with rfl | hc
        · exact hlt
        · exact Nat.lt_trans hlt (hp.1 c hc)
      · next hlt =>
        refine List.pairwise_cons.mpr ⟨fun c hc => ?_, ih (fun c hc => hm c (by simp [hc])) hp.2⟩
        rcases Mem.mem_place.mp hc with rfl | hc
        · show j < k
          omega
        · exact hp.1 c hc
  · rcases Mem.mem_place.mp hc with rfl | hc
    · exact ⟨hk, hv⟩
    · exact h.2 c hc

/-- A write inside the memory keeps the canonical form. -/
theorem Mem.wf_write {size : Nat} {m : Mem} {k : Nat} (v : Byte) (hk : k < size) (h : Mem.wf size m) :
    Mem.wf size (Mem.write m k v) := by
  unfold Mem.write
  split
  · exact Mem.wf_drop k h
  · next hv => exact Mem.wf_place hk hv (Mem.wf_drop k h) fun c hc => (Mem.mem_drop.mp hc).2

theorem Mem.read_eq_zero {m : Mem} {k : Nat} (h : ∀ c ∈ m, c.1 ≠ k) : Mem.read m k = 0 := by
  induction m with
  | nil => rfl
  | cons c m ih =>
    obtain ⟨j, b⟩ := c
    have hj : j ≠ k := h (j, b) (by simp)
    simpa [Mem.read, hj] using ih fun c hc => h c (by simp [hc])

theorem Mem.read_of_mem {size : Nat} {m : Mem} (h : Mem.wf size m) {c : Host.Cell} (hc : c ∈ m) :
    Mem.read m c.1 = c.2 := by
  obtain ⟨hp, -⟩ := h
  induction m with
  | nil => simp at hc
  | cons d m ih =>
    obtain ⟨j, b⟩ := d
    rw [List.pairwise_cons] at hp
    rcases List.mem_cons.mp hc with rfl | hc
    · simp [Mem.read]
    · have : j ≠ c.1 := Nat.ne_of_lt (hp.1 c hc)
      simpa [Mem.read, this] using ih hc hp.2

/-- Equal memories are equal data: two canonical memories that read the same everywhere are the same list. -/
theorem Mem.wf_ext {size : Nat} {m m' : Mem} (h : Mem.wf size m) (h' : Mem.wf size m')
    (he : ∀ k, Mem.read m k = Mem.read m' k) : m = m' := by
  have sub : ∀ {p q : Mem}, Mem.wf size p → Mem.wf size q → (∀ k, Mem.read p k = Mem.read q k) → ∀ c ∈ p, c ∈ q := by
    intro p q hp hq hpq c hc
    by_contra hn
    have hr := Mem.read_of_mem hp hc
    rw [hpq] at hr
    by_cases hk : ∃ d ∈ q, d.1 = c.1
    · obtain ⟨d, hd, hdc⟩ := hk
      have hr' := Mem.read_of_mem hq hd
      rw [hdc, hr] at hr'
      exact hn (by rwa [← Prod.ext hdc hr'.symm])
    · have : Mem.read q c.1 = 0 := Mem.read_eq_zero fun d hd hdc => hk ⟨d, hd, hdc⟩
      exact (hp.2 c hc).2 (hr.symm.trans this)
  refine List.Perm.eq_of_pairwise (fun c d _ _ (h1 : c.1 < d.1) h2 => absurd h1 (Nat.not_lt.mpr (Nat.le_of_lt h2)))
    h.1 h'.1 ?_
  have nd : m.Nodup := h.1.imp fun hlt => fun hcd => by subst hcd; exact Nat.lt_irrefl _ hlt
  have nd' : m'.Nodup := h'.1.imp fun hlt => fun hcd => by subst hcd; exact Nat.lt_irrefl _ hlt
  exact (List.perm_ext_iff_of_nodup nd nd').mpr fun c =>
    ⟨sub h h' he c, sub h' h (fun k => (he k).symm) c⟩

/-! ## Building a memory from bytes -/

theorem Mem.ofBytesFrom_bounds (k : Nat) (bs : List Byte) :
    ∀ c ∈ Mem.ofBytesFrom k bs, k ≤ c.1 ∧ c.1 < k + bs.length ∧ c.2 ≠ 0 := by
  induction bs generalizing k with
  | nil => simp [Mem.ofBytesFrom]
  | cons b bs ih =>
    intro c hc
    have step : ∀ c ∈ Mem.ofBytesFrom (k + 1) bs, k ≤ c.1 ∧ c.1 < k + (bs.length + 1) ∧ c.2 ≠ 0 := fun c hc => by
      obtain ⟨h1, h2, h3⟩ := ih (k + 1) c hc
      exact ⟨by omega, by omega, h3⟩
    unfold Mem.ofBytesFrom at hc
    split at hc
    · exact step c hc
    · next hb =>
      rcases List.mem_cons.mp hc with rfl | hc
      · exact ⟨Nat.le_refl k, by simp, hb⟩
      · exact step c hc

theorem Mem.ofBytesFrom_pairwise (k : Nat) (bs : List Byte) :
    (Mem.ofBytesFrom k bs).Pairwise (fun c d => c.1 < d.1) := by
  induction bs generalizing k with
  | nil => simp [Mem.ofBytesFrom]
  | cons b bs ih =>
    unfold Mem.ofBytesFrom
    split
    · exact ih (k + 1)
    · exact List.pairwise_cons.mpr ⟨fun c hc => (Mem.ofBytesFrom_bounds (k + 1) bs c hc).1, ih (k + 1)⟩

theorem Mem.wf_ofBytes {size : Nat} {bs : List Byte} (h : bs.length ≤ size) : Mem.wf size (Mem.ofBytes bs) :=
  ⟨Mem.ofBytesFrom_pairwise 0 bs, fun c hc => by
    obtain ⟨-, h2, h3⟩ := Mem.ofBytesFrom_bounds 0 bs c hc
    exact ⟨by omega, h3⟩⟩

theorem Mem.read_ofBytesFrom (bs : List Byte) (n k : Nat) :
    Mem.read (Mem.ofBytesFrom n bs) k = if k < n then 0 else bs.getD (k - n) 0 := by
  induction bs generalizing n with
  | nil => simp [Mem.ofBytesFrom]
  | cons b bs ih =>
    have next : ¬k < n + 1 → bs.getD (k - (n + 1)) 0 = (b :: bs).getD (k - n) 0 := fun h => by
      rw [show k - n = (k - (n + 1)) + 1 by omega, List.getD_cons_succ]
    unfold Mem.ofBytesFrom
    by_cases hk : k = n
    · subst hk
      split
      · next hb => rw [ih, if_pos (Nat.lt_succ_self k)]; simp [hb]
      · simp [Mem.read]
    · have : (k < n + 1) = (k < n) := by simp; omega
      split
      · rw [ih]; split <;> simp_all
      · rw [Mem.read, if_neg (Ne.symm hk), ih]; split <;> simp_all

/-- Byte `k` of the memory built from `bs` is byte `k` of `bs`, and 0x00 past its end. -/
theorem Mem.read_ofBytes (bs : List Byte) (k : Nat) : Mem.read (Mem.ofBytes bs) k = bs.getD k 0 := by
  simpa [Mem.ofBytes] using Mem.read_ofBytesFrom bs 0 k

end Sys2Proof.Machine
end

