-- ==== Sys2Proof/Laws/Cartridge.lean ====
section
/-! SUPPORT. The cartridge: what each side of it claims, and what a CPU-side write can change. -/

namespace Sys2Proof.Machine

/-- No variant claims a read below 0x6000 (R540). -/
theorem Cart.cpuMapRead_low (c : Cart) {a : Addr} (h : a.toNat < 0x6000) : c.cpuMapRead a = .notClaimed := by
  unfold Cart.cpuMapRead
  cases c.mapper with
  | v0 => simp only [fixedPrgRead]; rw [if_neg (by omega)]
  | v1 m => simp only [Mapper1.cpuMapRead]; rw [if_pos h]
  | v2 m => simp only [Mapper2.cpuMapRead]; rw [if_pos (by omega)]
  | v3 m => simp only [fixedPrgRead]; rw [if_neg (by omega)]
  | v4 m => simp only [Mapper4.cpuMapRead]; rw [if_pos h]

theorem Cart.cpuRead_low (c : Cart) {a : Addr} (h : a.toNat < 0x6000) : c.cpuRead a = none := by
  unfold Cart.cpuRead
  rw [c.cpuMapRead_low h]

/-- Every variant claims every read from 0x8000 on (R540). -/
theorem Cart.cpuRead_high (c : Cart) {a : Addr} (h : 0x8000 ≤ a.toNat) : ∃ d, c.cpuRead a = some d := by
  have : c.cpuMapRead a ≠ .notClaimed := by
    unfold Cart.cpuMapRead
    cases c.mapper with
    | v0 => simp only [fixedPrgRead]; rw [if_pos h]; simp
    | v1 m =>
      simp only [Mapper1.cpuMapRead]
      rw [if_neg (by omega), if_neg (by omega)]
      split
      · split <;> simp
      · simp
    | v2 m =>
      simp only [Mapper2.cpuMapRead]
      rw [if_neg (by omega)]
      split <;> simp
    | v3 m => simp only [fixedPrgRead]; rw [if_pos h]; simp
    | v4 m =>
      simp only [Mapper4.cpuMapRead]
      rw [if_neg (by omega), if_neg (by omega)]
      simp
  unfold Cart.cpuRead
  split
  · next h' => exact absurd h' this
  · exact ⟨_, rfl⟩
  · exact ⟨_, rfl⟩

/-- A CPU-side write below 0x6000 does not reach the cartridge (R540). -/
theorem Cart.cpuWrite_low (c : Cart) {a : Addr} (d : Byte) (h : a.toNat < 0x6000) : c.cpuWrite a d = ⟨c, false⟩ := by
  have h8 : a.toNat < 0x8000 := by omega
  unfold Cart.cpuWrite
  split <;> simp [h, h8]

/-- Only cartridge RAM claims a CPU-side write, at 0x6000 to 0x7FFF (R485, R540). -/
theorem Cart.cpuWrite_claimed {c : Cart} {a : Addr} {d : Byte} (h : (c.cpuWrite a d).claimed = true) :
    0x6000 ≤ a.toNat ∧ a.toNat < 0x8000 := by
  unfold Cart.cpuWrite at h
  split at h
  · simp at h
  · by_cases h1 : a.toNat < 0x6000
    · simp [h1] at h
    · by_cases h2 : a.toNat < 0x8000
      · omega
      · simp [h1, h2] at h
  · by_cases h2 : a.toNat < 0x8000 <;> simp [h2] at h
  · by_cases h2 : a.toNat < 0x8000 <;> simp [h2] at h
  · by_cases h1 : a.toNat < 0x6000
    · simp [h1] at h
    · by_cases h2 : a.toNat < 0x8000
      · omega
      · simp [h1, h2] at h

/-- A CPU-side write changes the mapper and nothing else of the cartridge: in particular never PRG storage (R480,
R68). -/
theorem Cart.cpuWrite_keeps (c : Cart) (a : Addr) (d : Byte) :
    (c.cpuWrite a d).cart = { c with mapper := (c.cpuWrite a d).cart.mapper } := by
  obtain ⟨pb, cb, id, hw, prg, chr, mapper⟩ := c
  unfold Cart.cpuWrite
  cases mapper with
  | v0 => rfl
  | v1 m => by_cases h1 : a.toNat < 0x6000 <;> by_cases h2 : a.toNat < 0x8000 <;> simp [h1, h2]
  | v2 m => by_cases h2 : a.toNat < 0x8000 <;> simp [h2]
  | v3 m => by_cases h2 : a.toNat < 0x8000 <;> simp [h2]
  | v4 m => by_cases h1 : a.toNat < 0x6000 <;> by_cases h2 : a.toNat < 0x8000 <;> simp [h1, h2]

/-- A PPU-side write changes CHR storage and nothing else, and only of a cartridge with CHR RAM (R486). -/
theorem Cart.ppuWrite_keeps (c : Cart) (a : BitVec 14) (d : Byte) :
    (c.ppuWrite a d).cart = { c with chr := (c.ppuWrite a d).cart.chr }
      ∧ (c.chrIsRam = false → (c.ppuWrite a d).cart = c) := by
  unfold Cart.ppuWrite
  split
  · next h =>
    refine ⟨?_, fun hr => by simp [hr] at h⟩
    dsimp only
    split <;> rfl
  · exact ⟨rfl, fun _ => rfl⟩

theorem Cart.ppuWrite_claimed {c : Cart} {a : BitVec 14} {d : Byte} (h : (c.ppuWrite a d).claimed = true) :
    a.toNat < 0x2000 ∧ c.chrIsRam = true := by
  unfold Cart.ppuWrite at h
  split at h
  · next h' => exact h'
  · simp at h

/-- A mapper keeps its variant when written. -/
theorem Cart.cpuWrite_prgBanks (c : Cart) (a : Addr) (d : Byte) : (c.cpuWrite a d).cart.prgBanks = c.prgBanks := by
  rw [c.cpuWrite_keeps]

theorem Cart.cpuWrite_prg (c : Cart) (a : Addr) (d : Byte) : (c.cpuWrite a d).cart.prg = c.prg := by
  rw [c.cpuWrite_keeps]

/-- A write below 0x8000 changes no other byte of the cartridge (R540). -/
theorem Cart.cpuRead_cpuWrite_ram (c : Cart) {a b : Addr} (d : Byte) (h : a.toNat < 0x8000) (hb : a ≠ b) :
    (c.cpuWrite a d).cart.cpuRead b = c.cpuRead b := by
  have hn : a.toNat ≠ b.toNat := by rwa [Ne, BitVec.toNat_inj]
  have hr : ∀ m : Mem, b.toNat < 0x8000 → ¬ b.toNat < 0x6000 → ¬ a.toNat < 0x6000 →
      Mem.read (Mem.write m (a.toNat % 0x2000) d) (b.toNat % 0x2000) = Mem.read m (b.toNat % 0x2000) := by
    intro m h1 h2 h3
    exact Mem.read_write_other _ _ (by omega)
  obtain ⟨pb, cb, id, hw, prg, chr, mapper⟩ := c
  unfold Cart.cpuWrite
  cases mapper with
  | v0 => rfl
  | v2 m => simp [h]
  | v3 m => simp [h]
  | v1 m =>
    by_cases h1 : a.toNat < 0x6000
    · simp [h1]
    · simp only [h1, h, if_true, if_false, Cart.cpuRead, Cart.cpuMapRead, Mapper1.cpuMapRead]
      by_cases h2 : b.toNat < 0x6000
      · simp [h2]
      · by_cases h3 : b.toNat < 0x8000
        · simp [h2, h3, hr _ h3 h2 h1]
        · simp only [h2, h3, if_false]; rfl
  | v4 m =>
    by_cases h1 : a.toNat < 0x6000
    · simp [h1]
    · simp only [h1, h, if_true, if_false, Cart.cpuRead, Cart.cpuMapRead, Mapper4.cpuMapRead]
      by_cases h2 : b.toNat < 0x6000
      · simp [h2]
      · by_cases h3 : b.toNat < 0x8000
        · simp [h2, h3, hr _ h3 h2 h1]
        · simp only [h2, h3, if_false]; rfl

theorem Mapper1.serialWrite_ram (m : Mapper1) (pb : Byte) (a : Addr) (d : Byte) : (m.serialWrite pb a d).ram = m.ram := by
  unfold Mapper1.serialWrite Mapper1.commit
  dsimp only
  repeat' split
  all_goals rfl

theorem Mapper4.registerWrite_ram (m : Mapper4) (a : Addr) (d : Byte) : (m.registerWrite a d).ram = m.ram := by
  unfold Mapper4.registerWrite
  split <;> rfl

/-- A register write changes nothing the CPU reads below 0x8000 (R540). -/
theorem Cart.cpuRead_cpuWrite_reg (c : Cart) {a b : Addr} (d : Byte) (hb : b.toNat < 0x8000) (h : 0x8000 ≤ a.toNat) :
    (c.cpuWrite a d).cart.cpuRead b = c.cpuRead b := by
  have h1 : ¬ a.toNat < 0x6000 := by omega
  have h2 : ¬ a.toNat < 0x8000 := by omega
  obtain ⟨pb, cb, id, hw, prg, chr, mapper⟩ := c
  unfold Cart.cpuWrite
  cases mapper with
  | v0 => rfl
  | v2 m => simp [h2, Cart.cpuRead, Cart.cpuMapRead, Mapper2.cpuMapRead, hb]
  | v3 m => simp [h2, Cart.cpuRead, Cart.cpuMapRead, fixedPrgRead]; rfl
  | v1 m =>
    simp only [h1, h2, if_false, Cart.cpuRead, Cart.cpuMapRead, Mapper1.cpuMapRead, hb, if_true,
      Mapper1.serialWrite_ram]
    rfl
  | v4 m =>
    simp only [h1, h2, if_false, Cart.cpuRead, Cart.cpuMapRead, Mapper4.cpuMapRead, hb, if_true,
      Mapper4.registerWrite_ram]
    rfl

/-- A PPU-side write changes nothing the CPU reads. -/
theorem Cart.cpuRead_ppuWrite (c : Cart) (a : BitVec 14) (d : Byte) (b : Addr) :
    (c.ppuWrite a d).cart.cpuRead b = c.cpuRead b := by
  rw [(c.ppuWrite_keeps a d).1]
  rfl

end Sys2Proof.Machine
end

