-- ==== Sys2Proof/Laws/Flags.lean ====
section
/-! SUPPORT. Bit fields, byte pairs and the status register: what each flag update does to each flag, and the flag
computations as arithmetic. -/

namespace Sys2Proof.Machine

/-! ## Bits -/

theorem getLsbD_bitAt (w : Nat) (b : Bool) (k j : Nat) : (bitAt w b k).getLsbD j = (b && decide (j = k) && decide (k < w)) := by
  unfold bitAt
  cases b
  · simp
  · by_cases h : j = k
    · subst h
      by_cases hw : j < w <;> simp [hw]
    · simp only [if_true, h, decide_false, Bool.and_false, Bool.false_and]
      by_cases hlt : j < k
      · simp [hlt]
      · have : j - k ≠ 0 := by omega
        simp [this, BitVec.getLsbD_one]

theorem getLsbD_setBit {w : Nat} (x : BitVec w) (k : Nat) (b : Bool) (j : Nat) :
    (setBit x k b).getLsbD j = if j = k ∧ k < w then b else x.getLsbD j := by
  have one : (1#w <<< k).getLsbD j = (decide (j = k) && decide (k < w)) := by
    simpa [bitAt] using getLsbD_bitAt w true k j
  simp only [setBit, BitVec.getLsbD_or, BitVec.getLsbD_and, BitVec.getLsbD_not, one, getLsbD_bitAt]
  by_cases h : j = k
  · subst h
    by_cases hw : j < w
    · simp [hw]
    · simp [hw, BitVec.getLsbD_of_ge x j (by omega)]
  · by_cases hw : j < w
    · simp [h, hw]
    · simp [h, hw, BitVec.getLsbD_of_ge x j (by omega)]

/-! ## Byte pairs -/

@[simp] theorem page_joinBytes (hi lo : Byte) : page (joinBytes hi lo) = hi := by
  apply BitVec.eq_of_getLsbD_eq
  intro i hi
  simp only [page, joinBytes, BitVec.getLsbD_extractLsb', BitVec.getLsbD_append]
  simp [hi]

@[simp] theorem lowByte_joinBytes (hi lo : Byte) : lowByte (joinBytes hi lo) = lo := by
  apply BitVec.eq_of_getLsbD_eq
  intro i hi
  simp only [lowByte, joinBytes, BitVec.getLsbD_extractLsb', BitVec.getLsbD_append]
  simp [hi]

@[simp] theorem joinBytes_page_lowByte (a : Addr) : joinBytes (page a) (lowByte a) = a := by
  apply BitVec.eq_of_getLsbD_eq
  intro i hi
  simp only [page, lowByte, joinBytes, BitVec.getLsbD_extractLsb', BitVec.getLsbD_append]
  by_cases h : i < 8
  · simp [h]
  · simp [h, show i - 8 < 8 by omega, show 8 + (i - 8) = i by omega]

theorem toNat_joinBytes (hi lo : Byte) : (joinBytes hi lo).toNat = hi.toNat * 256 + lo.toNat := by
  simp only [joinBytes, BitVec.toNat_append, Nat.shiftLeft_eq]
  rw [Nat.mul_comm, ← Nat.two_pow_add_eq_or_of_lt lo.isLt, Nat.mul_comm]

@[simp] theorem toNat_zext16 (v : Byte) : (zext16 v).toNat = v.toNat := by
  have := v.isLt
  simp only [zext16, BitVec.toNat_setWidth]
  omega

theorem toNat_page (a : Addr) : (page a).toNat = a.toNat / 256 := by
  have := a.isLt
  simp only [page, BitVec.extractLsb'_toNat, Nat.shiftRight_eq_div_pow]
  omega

theorem toNat_lowByte (a : Addr) : (lowByte a).toNat = a.toNat % 256 := by
  simp [lowByte]

/-! ## The status register -/

@[simp] theorem flagC_setC (b : Bool) (p : Byte) : flagC (setC b p) = b :=
  getLsbD_setBit p 0 b 0
@[simp] theorem flagZ_setC (b : Bool) (p : Byte) : flagZ (setC b p) = flagZ p :=
  getLsbD_setBit p 0 b 1
@[simp] theorem flagI_setC (b : Bool) (p : Byte) : flagI (setC b p) = flagI p :=
  getLsbD_setBit p 0 b 2
@[simp] theorem flagD_setC (b : Bool) (p : Byte) : flagD (setC b p) = flagD p :=
  getLsbD_setBit p 0 b 3
@[simp] theorem flagB_setC (b : Bool) (p : Byte) : flagB (setC b p) = flagB p :=
  getLsbD_setBit p 0 b 4
@[simp] theorem flagU_setC (b : Bool) (p : Byte) : flagU (setC b p) = flagU p :=
  getLsbD_setBit p 0 b 5
@[simp] theorem flagV_setC (b : Bool) (p : Byte) : flagV (setC b p) = flagV p :=
  getLsbD_setBit p 0 b 6
@[simp] theorem flagN_setC (b : Bool) (p : Byte) : flagN (setC b p) = flagN p :=
  getLsbD_setBit p 0 b 7
@[simp] theorem flagC_setZ (b : Bool) (p : Byte) : flagC (setZ b p) = flagC p :=
  getLsbD_setBit p 1 b 0
@[simp] theorem flagZ_setZ (b : Bool) (p : Byte) : flagZ (setZ b p) = b :=
  getLsbD_setBit p 1 b 1
@[simp] theorem flagI_setZ (b : Bool) (p : Byte) : flagI (setZ b p) = flagI p :=
  getLsbD_setBit p 1 b 2
@[simp] theorem flagD_setZ (b : Bool) (p : Byte) : flagD (setZ b p) = flagD p :=
  getLsbD_setBit p 1 b 3
@[simp] theorem flagB_setZ (b : Bool) (p : Byte) : flagB (setZ b p) = flagB p :=
  getLsbD_setBit p 1 b 4
@[simp] theorem flagU_setZ (b : Bool) (p : Byte) : flagU (setZ b p) = flagU p :=
  getLsbD_setBit p 1 b 5
@[simp] theorem flagV_setZ (b : Bool) (p : Byte) : flagV (setZ b p) = flagV p :=
  getLsbD_setBit p 1 b 6
@[simp] theorem flagN_setZ (b : Bool) (p : Byte) : flagN (setZ b p) = flagN p :=
  getLsbD_setBit p 1 b 7
@[simp] theorem flagC_setI (b : Bool) (p : Byte) : flagC (setI b p) = flagC p :=
  getLsbD_setBit p 2 b 0
@[simp] theorem flagZ_setI (b : Bool) (p : Byte) : flagZ (setI b p) = flagZ p :=
  getLsbD_setBit p 2 b 1
@[simp] theorem flagI_setI (b : Bool) (p : Byte) : flagI (setI b p) = b :=
  getLsbD_setBit p 2 b 2
@[simp] theorem flagD_setI (b : Bool) (p : Byte) : flagD (setI b p) = flagD p :=
  getLsbD_setBit p 2 b 3
@[simp] theorem flagB_setI (b : Bool) (p : Byte) : flagB (setI b p) = flagB p :=
  getLsbD_setBit p 2 b 4
@[simp] theorem flagU_setI (b : Bool) (p : Byte) : flagU (setI b p) = flagU p :=
  getLsbD_setBit p 2 b 5
@[simp] theorem flagV_setI (b : Bool) (p : Byte) : flagV (setI b p) = flagV p :=
  getLsbD_setBit p 2 b 6
@[simp] theorem flagN_setI (b : Bool) (p : Byte) : flagN (setI b p) = flagN p :=
  getLsbD_setBit p 2 b 7
@[simp] theorem flagC_setD (b : Bool) (p : Byte) : flagC (setD b p) = flagC p :=
  getLsbD_setBit p 3 b 0
@[simp] theorem flagZ_setD (b : Bool) (p : Byte) : flagZ (setD b p) = flagZ p :=
  getLsbD_setBit p 3 b 1
@[simp] theorem flagI_setD (b : Bool) (p : Byte) : flagI (setD b p) = flagI p :=
  getLsbD_setBit p 3 b 2
@[simp] theorem flagD_setD (b : Bool) (p : Byte) : flagD (setD b p) = b :=
  getLsbD_setBit p 3 b 3
@[simp] theorem flagB_setD (b : Bool) (p : Byte) : flagB (setD b p) = flagB p :=
  getLsbD_setBit p 3 b 4
@[simp] theorem flagU_setD (b : Bool) (p : Byte) : flagU (setD b p) = flagU p :=
  getLsbD_setBit p 3 b 5
@[simp] theorem flagV_setD (b : Bool) (p : Byte) : flagV (setD b p) = flagV p :=
  getLsbD_setBit p 3 b 6
@[simp] theorem flagN_setD (b : Bool) (p : Byte) : flagN (setD b p) = flagN p :=
  getLsbD_setBit p 3 b 7
@[simp] theorem flagC_setB (b : Bool) (p : Byte) : flagC (setB b p) = flagC p :=
  getLsbD_setBit p 4 b 0
@[simp] theorem flagZ_setB (b : Bool) (p : Byte) : flagZ (setB b p) = flagZ p :=
  getLsbD_setBit p 4 b 1
@[simp] theorem flagI_setB (b : Bool) (p : Byte) : flagI (setB b p) = flagI p :=
  getLsbD_setBit p 4 b 2
@[simp] theorem flagD_setB (b : Bool) (p : Byte) : flagD (setB b p) = flagD p :=
  getLsbD_setBit p 4 b 3
@[simp] theorem flagB_setB (b : Bool) (p : Byte) : flagB (setB b p) = b :=
  getLsbD_setBit p 4 b 4
@[simp] theorem flagU_setB (b : Bool) (p : Byte) : flagU (setB b p) = flagU p :=
  getLsbD_setBit p 4 b 5
@[simp] theorem flagV_setB (b : Bool) (p : Byte) : flagV (setB b p) = flagV p :=
  getLsbD_setBit p 4 b 6
@[simp] theorem flagN_setB (b : Bool) (p : Byte) : flagN (setB b p) = flagN p :=
  getLsbD_setBit p 4 b 7
@[simp] theorem flagC_setV (b : Bool) (p : Byte) : flagC (setV b p) = flagC p :=
  getLsbD_setBit p 6 b 0
@[simp] theorem flagZ_setV (b : Bool) (p : Byte) : flagZ (setV b p) = flagZ p :=
  getLsbD_setBit p 6 b 1
@[simp] theorem flagI_setV (b : Bool) (p : Byte) : flagI (setV b p) = flagI p :=
  getLsbD_setBit p 6 b 2
@[simp] theorem flagD_setV (b : Bool) (p : Byte) : flagD (setV b p) = flagD p :=
  getLsbD_setBit p 6 b 3
@[simp] theorem flagB_setV (b : Bool) (p : Byte) : flagB (setV b p) = flagB p :=
  getLsbD_setBit p 6 b 4
@[simp] theorem flagU_setV (b : Bool) (p : Byte) : flagU (setV b p) = flagU p :=
  getLsbD_setBit p 6 b 5
@[simp] theorem flagV_setV (b : Bool) (p : Byte) : flagV (setV b p) = b :=
  getLsbD_setBit p 6 b 6
@[simp] theorem flagN_setV (b : Bool) (p : Byte) : flagN (setV b p) = flagN p :=
  getLsbD_setBit p 6 b 7
@[simp] theorem flagC_setN (b : Bool) (p : Byte) : flagC (setN b p) = flagC p :=
  getLsbD_setBit p 7 b 0
@[simp] theorem flagZ_setN (b : Bool) (p : Byte) : flagZ (setN b p) = flagZ p :=
  getLsbD_setBit p 7 b 1
@[simp] theorem flagI_setN (b : Bool) (p : Byte) : flagI (setN b p) = flagI p :=
  getLsbD_setBit p 7 b 2
@[simp] theorem flagD_setN (b : Bool) (p : Byte) : flagD (setN b p) = flagD p :=
  getLsbD_setBit p 7 b 3
@[simp] theorem flagB_setN (b : Bool) (p : Byte) : flagB (setN b p) = flagB p :=
  getLsbD_setBit p 7 b 4
@[simp] theorem flagU_setN (b : Bool) (p : Byte) : flagU (setN b p) = flagU p :=
  getLsbD_setBit p 7 b 5
@[simp] theorem flagV_setN (b : Bool) (p : Byte) : flagV (setN b p) = flagV p :=
  getLsbD_setBit p 7 b 6
@[simp] theorem flagN_setN (b : Bool) (p : Byte) : flagN (setN b p) = b :=
  getLsbD_setBit p 7 b 7

/-- A status byte is its eight flags. -/
theorem status_ext {p q : Byte} (c : flagC p = flagC q) (z : flagZ p = flagZ q) (i : flagI p = flagI q)
    (d : flagD p = flagD q) (b : flagB p = flagB q) (u : flagU p = flagU q) (v : flagV p = flagV q)
    (n : flagN p = flagN q) : p = q := by
  apply BitVec.eq_of_getLsbD_eq
  intro k hk
  match k, hk with
  | 0, _ => exact c
  | 1, _ => exact z
  | 2, _ => exact i
  | 3, _ => exact d
  | 4, _ => exact b
  | 5, _ => exact u
  | 6, _ => exact v
  | 7, _ => exact n

/-! ## Images of the status on the stack -/

@[simp] theorem flagC_softImage (p : Byte) : flagC (softImage p) = flagC p := by simp [flagC, softImage]
@[simp] theorem flagZ_softImage (p : Byte) : flagZ (softImage p) = flagZ p := by simp [flagZ, softImage]
@[simp] theorem flagI_softImage (p : Byte) : flagI (softImage p) = flagI p := by simp [flagI, softImage]
@[simp] theorem flagD_softImage (p : Byte) : flagD (softImage p) = flagD p := by simp [flagD, softImage]
@[simp] theorem flagB_softImage (p : Byte) : flagB (softImage p) = true := by simp [flagB, softImage]
@[simp] theorem flagU_softImage (p : Byte) : flagU (softImage p) = true := by simp [flagU, softImage]
@[simp] theorem flagV_softImage (p : Byte) : flagV (softImage p) = flagV p := by simp [flagV, softImage]
@[simp] theorem flagN_softImage (p : Byte) : flagN (softImage p) = flagN p := by simp [flagN, softImage]
@[simp] theorem flagC_interruptImage (p : Byte) : flagC (interruptImage p) = flagC p := by simp [flagC, interruptImage]
@[simp] theorem flagZ_interruptImage (p : Byte) : flagZ (interruptImage p) = flagZ p := by simp [flagZ, interruptImage]
@[simp] theorem flagI_interruptImage (p : Byte) : flagI (interruptImage p) = flagI p := by simp [flagI, interruptImage]
@[simp] theorem flagD_interruptImage (p : Byte) : flagD (interruptImage p) = flagD p := by simp [flagD, interruptImage]
@[simp] theorem flagB_interruptImage (p : Byte) : flagB (interruptImage p) = false := by simp [flagB, interruptImage]
@[simp] theorem flagU_interruptImage (p : Byte) : flagU (interruptImage p) = true := by simp [flagU, interruptImage]
@[simp] theorem flagV_interruptImage (p : Byte) : flagV (interruptImage p) = flagV p := by simp [flagV, interruptImage]
@[simp] theorem flagN_interruptImage (p : Byte) : flagN (interruptImage p) = flagN p := by simp [flagN, interruptImage]
@[simp] theorem flagC_pulledStatus (p : Byte) : flagC (pulledStatus p) = flagC p := by simp [flagC, pulledStatus]
@[simp] theorem flagZ_pulledStatus (p : Byte) : flagZ (pulledStatus p) = flagZ p := by simp [flagZ, pulledStatus]
@[simp] theorem flagI_pulledStatus (p : Byte) : flagI (pulledStatus p) = flagI p := by simp [flagI, pulledStatus]
@[simp] theorem flagD_pulledStatus (p : Byte) : flagD (pulledStatus p) = flagD p := by simp [flagD, pulledStatus]
@[simp] theorem flagB_pulledStatus (p : Byte) : flagB (pulledStatus p) = false := by simp [flagB, pulledStatus]
@[simp] theorem flagU_pulledStatus (p : Byte) : flagU (pulledStatus p) = true := by simp [flagU, pulledStatus]
@[simp] theorem flagV_pulledStatus (p : Byte) : flagV (pulledStatus p) = flagV p := by simp [flagV, pulledStatus]
@[simp] theorem flagN_pulledStatus (p : Byte) : flagN (pulledStatus p) = flagN p := by simp [flagN, pulledStatus]

/-- Pulling back an image that was pushed restores the status, but for B and U. -/
theorem pulledStatus_softImage {p : Byte} (hb : flagB p = false) (hu : flagU p = true) :
    pulledStatus (softImage p) = p := by
  apply status_ext <;> simp [hb, hu]

theorem pulledStatus_interruptImage {p : Byte} (hb : flagB p = false) (hu : flagU p = true) :
    pulledStatus (interruptImage p) = p := by
  apply status_ext <;> simp [hb, hu]

/-! ## Flag computations -/

@[simp] theorem flagC_setZN (v p : Byte) : flagC (setZN v p) = flagC p := by simp [setZN]
@[simp] theorem flagZ_setZN (v p : Byte) : flagZ (setZN v p) = (v == 0) := by simp [setZN]
@[simp] theorem flagI_setZN (v p : Byte) : flagI (setZN v p) = flagI p := by simp [setZN]
@[simp] theorem flagD_setZN (v p : Byte) : flagD (setZN v p) = flagD p := by simp [setZN]
@[simp] theorem flagB_setZN (v p : Byte) : flagB (setZN v p) = flagB p := by simp [setZN]
@[simp] theorem flagU_setZN (v p : Byte) : flagU (setZN v p) = flagU p := by simp [setZN]
@[simp] theorem flagV_setZN (v p : Byte) : flagV (setZN v p) = flagV p := by simp [setZN]
@[simp] theorem flagN_setZN (v p : Byte) : flagN (setZN v p) = v.getLsbD 7 := by simp [setZN]

/-- The sum of an addition with carry is the sum modulo 256, and its carry is the 9th bit (R190, R195). -/
theorem addWithCarry_result (a m : Byte) (c : Bool) :
    (addWithCarry a m c).result.toNat = (a.toNat + m.toNat + c.toNat) % 256 := by
  have ha := a.isLt; have hm := m.isLt
  simp only [addWithCarry, BitVec.toNat_setWidth, BitVec.toNat_add, BitVec.toNat_ofBool]
  have := Bool.toNat_lt c
  omega

theorem addWithCarry_carry (a m : Byte) (c : Bool) :
    (addWithCarry a m c).carry = decide (255 < a.toNat + m.toNat + c.toNat) := by
  have ha := a.isLt; have hm := m.isLt
  simp only [addWithCarry, BitVec.toNat_setWidth, BitVec.toNat_add, BitVec.toNat_ofBool, decide_eq_decide]
  have := Bool.toNat_lt c
  omega

theorem getLsbD_seven (b : Byte) : b.getLsbD 7 = decide (128 ≤ b.toNat) := by
  have := b.isLt
  rw [BitVec.getLsbD, Nat.testBit_eq_decide_div_mod_eq, decide_eq_decide]
  omega

/-- The overflow of an addition with carry: the signed sum does not fit (R190). -/
theorem addWithCarry_overflow (a m : Byte) (c : Bool) :
    (addWithCarry a m c).overflow = decide (¬(-128 ≤ a.toInt + m.toInt + c.toNat ∧ a.toInt + m.toInt + c.toNat ≤ 127)) := by
  have hr := addWithCarry_result a m c
  have ha := a.isLt; have hm := m.isLt
  have hc := Bool.toNat_lt c
  have hx : (addWithCarry a m c).overflow
      = ((!(a.getLsbD 7 ^^ m.getLsbD 7)) && (a.getLsbD 7 ^^ (addWithCarry a m c).result.getLsbD 7)) := by
    simp [addWithCarry]
  rw [hx, getLsbD_seven, getLsbD_seven, getLsbD_seven, hr, BitVec.toInt_eq_toNat_cond, BitVec.toInt_eq_toNat_cond]
  by_cases h1 : 128 ≤ a.toNat <;> by_cases h2 : 128 ≤ m.toNat
    <;> by_cases h3 : 128 ≤ (a.toNat + m.toNat + c.toNat) % 256 <;> simp [h1, h2, h3] <;> omega

end Sys2Proof.Machine
end

