-- ==== Sys2Proof/Laws/Decode.lean ====
section
/-! SUPPORT. The decoder by the shape of a table row, and the agreement of the decoder's table (R110) with the
encoder's (R111): for every opcode byte, the row's instruction encodes to that byte and its operand bytes. -/

namespace Sys2Proof

/-! ## The decoder by the shape of the row -/

theorem decode_none {op : Byte} {i : Instr} (h : (opEntry op).make = .none i) (rest : List Byte) :
    decode (op :: rest) = .ok (i, rest) := by
  simp [decode, h]

theorem decode_byte {op : Byte} {f : Byte → Instr} (h : (opEntry op).make = .byte f) (b : Byte) (rest : List Byte) :
    decode (op :: b :: rest) = .ok (f b, rest) := by
  simp [decode, h]

theorem decode_word {op : Byte} {f : Addr → Instr} (h : (opEntry op).make = .word f) (lo hi : Byte)
    (rest : List Byte) : decode (op :: lo :: hi :: rest) = .ok (f (joinBytes hi lo), rest) := by
  simp [decode, h]

/-! ## The two tables agree -/

/-- What a row of the decoder's table makes is encoded by the encoder's table as that row's opcode byte and the
operand bytes, and has the row's length, mnemonic, format and base cycles. -/
def Maker.Agrees (e : OpEntry) (op : Byte) : Maker → Prop
  | .none i => encode i = [op] ∧ i.length = 1 ∧ i.opcode = op ∧ i.line.mnem = e.mnem ∧ i.line.mode.format = e.fmt
      ∧ i.baseCycles = e.cycles
  | .byte f => ∀ b, encode (f b) = [op, b] ∧ (f b).length = 2 ∧ (f b).opcode = op ∧ (f b).line.mnem = e.mnem
      ∧ (f b).line.mode.format = e.fmt ∧ (f b).baseCycles = e.cycles
  | .word f => ∀ a, encode (f a) = [op, Machine.lowByte a, Machine.page a] ∧ (f a).length = 3 ∧ (f a).opcode = op
      ∧ (f a).line.mnem = e.mnem ∧ (f a).line.mode.format = e.fmt ∧ (f a).baseCycles = e.cycles

theorem opEntry_agrees (op : Byte) : (opEntry op).make.Agrees (opEntry op) op := by
  have all : ∀ n : Fin 256, (opEntry (BitVec.ofFin n)).make.Agrees (opEntry (BitVec.ofFin n)) (BitVec.ofFin n) := by
    intro n
    fin_cases n <;> first | exact ⟨rfl, rfl, rfl, rfl, rfl, rfl⟩ | exact fun _ => ⟨rfl, rfl, rfl, rfl, rfl, rfl⟩
  exact all op.toFin

/-- Every instruction is well formed: its row is one of the table (R103). -/
theorem Instr.wellFormed_all (i : Instr) : i.wellFormed = true := by cases i <;> rfl

/-- Every instruction has one of its mnemonic's encodings, and its first byte is that encoding's opcode byte (R111). -/
theorem Instr.encoding_mem (i : Instr) :
    (i.opcode, i.line.mode.format, i.baseCycles) ∈ i.line.mnem.encodings ∧ (encode i).head? = some i.opcode := by
  have row : ∃ r, i.line.mnem.encodings.find? (·.2.1 == i.line.mode.format) = some r := by
    cases i <;> exact ⟨_, rfl⟩
  obtain ⟨r, hr⟩ := row
  have hf : r.2.1 = i.line.mode.format := by simpa using List.find?_some hr
  have ho : i.opcode = r.1 := by simp [Instr.opcode, Mnem.opcode, hr]
  have hc : i.baseCycles = r.2.2 := by simp [Instr.baseCycles, hr]
  refine ⟨?_, by simp [encode, Line.assemble, Instr.opcode, Mnem.opcode, hr]⟩
  rw [ho, hc, ← hf]
  exact List.mem_of_find?_eq_some hr

/-- Whatever decodes was encoded by its own encoding, and its length is that of its opcode's row. -/
theorem decode_cons_spec {op : Byte} {xs r : List Byte} {i : Instr} (h : decode (op :: xs) = .ok (i, r)) :
    op :: xs = encode i ++ r ∧ i.opcode = op ∧ i.length = (opEntry op).make.operands + 1 := by
  have m := opEntry_agrees op
  cases hm : (opEntry op).make with
  | none j =>
    rw [hm] at m
    rw [decode_none hm] at h
    injection h with h
    obtain ⟨rfl, rfl⟩ := Prod.mk.inj h
    exact ⟨by rw [m.1]; rfl, m.2.2.1, m.2.1⟩
  | byte f =>
    rw [hm] at m
    match xs with
    | [] => simp [decode, hm] at h
    | b :: xs =>
      rw [decode_byte hm] at h
      injection h with h
      obtain ⟨rfl, rfl⟩ := Prod.mk.inj h
      exact ⟨by rw [(m b).1]; rfl, (m b).2.2.1, (m b).2.1⟩
  | word f =>
    rw [hm] at m
    match xs with
    | [] => simp [decode, hm] at h
    | [_] => simp [decode, hm] at h
    | lo :: hi :: xs =>
      rw [decode_word hm] at h
      injection h with h
      obtain ⟨rfl, rfl⟩ := Prod.mk.inj h
      exact ⟨by rw [(m _).1]; simp, (m _).2.2.1, (m _).2.1⟩

end Sys2Proof
end

