-- ==== Sys2Proof/Laws/Ops.lean ====
section
/-! SUPPORT. What the shared operations do, once each: a CPU-side read and write, push and pull, taking an exception
and returning from one, reset. Callers cite these instead of unfolding the operation. -/

namespace Sys2Proof.Machine

/-! ## Reads -/

/-- What a CPU-side read may leave changed (20_memory.md R75): the flags and latches of the picture unit's STATUS and
DATA registers and the controller shift registers, and nothing else. -/
structure SameButReads (s t : State) : Prop where
  cpu : t.cpu = s.cpu
  bus : t.bus = { s.bus with padShift0 := t.bus.padShift0, padShift1 := t.bus.padShift1 }
  ppu : t.ppu = { s.ppu with vblank := t.ppu.vblank, w := t.ppu.w, dataBuf := t.ppu.dataBuf, v := t.ppu.v }
  apu : t.apu = s.apu
  cart : t.cart = s.cart
  params : t.params = s.params

theorem SameButReads.refl (s : State) : SameButReads s s := ⟨rfl, rfl, rfl, rfl, rfl, rfl⟩

theorem SameButReads.trans {s t u : State} (h : SameButReads s t) (k : SameButReads t u) : SameButReads s u :=
  ⟨k.cpu.trans h.cpu, by rw [k.bus, h.bus], by rw [k.ppu, h.ppu], k.apu.trans h.apu, k.cart.trans h.cart,
    k.params.trans h.params⟩

theorem State.ppuRegRead_frame (s : State) (r : Nat) : SameButReads s (s.ppuRegRead r).st := by
  unfold State.ppuRegRead
  split <;> constructor <;> rfl

theorem State.busRead_frame (s : State) (a : Addr) : SameButReads s (s.busRead a).st := by
  unfold State.busRead
  dsimp only
  split
  · exact SameButReads.refl s
  split
  · exact s.ppuRegRead_frame _
  split
  · exact SameButReads.refl s
  split
  · constructor <;> rfl
  split
  · constructor <;> rfl
  · exact SameButReads.refl s

/-- Everything a CPU-side read can change (R75). -/
theorem State.memRead_frame (s : State) (a : Addr) : SameButReads s (s.memRead a).st := by
  unfold State.memRead
  split
  · exact SameButReads.refl s
  · exact s.busRead_frame a

@[simp] theorem State.memRead_cpu (s : State) (a : Addr) : (s.memRead a).st.cpu = s.cpu := (s.memRead_frame a).cpu
@[simp] theorem State.memRead_apu (s : State) (a : Addr) : (s.memRead a).st.apu = s.apu := (s.memRead_frame a).apu
@[simp] theorem State.memRead_cart (s : State) (a : Addr) : (s.memRead a).st.cart = s.cart := (s.memRead_frame a).cart
@[simp] theorem State.memRead_params (s : State) (a : Addr) : (s.memRead a).st.params = s.params :=
  (s.memRead_frame a).params
@[simp] theorem State.memRead_ram (s : State) (a : Addr) : (s.memRead a).st.bus.ram = s.bus.ram := by
  rw [(s.memRead_frame a).bus]

/-- A read reads the same, and leaves the same but for the CPU, whatever the CPU's registers are. -/
theorem State.memRead_withCpu (s : State) (c : Cpu) (a : Addr) :
    ({ s with cpu := c } : State).memRead a = ⟨(s.memRead a).val, { (s.memRead a).st with cpu := c }⟩ := by
  have reg : ∀ r, ({ s with cpu := c } : State).ppuRegRead r
      = ⟨(s.ppuRegRead r).val, { (s.ppuRegRead r).st with cpu := c }⟩ := by
    intro r
    unfold State.ppuRegRead
    split <;> rfl
  have bus : ({ s with cpu := c } : State).busRead a = ⟨(s.busRead a).val, { (s.busRead a).st with cpu := c }⟩ := by
    unfold State.busRead
    dsimp only
    split
    · rfl
    split
    · exact reg _
    split
    · rfl
    split
    · rfl
    split <;> rfl
  unfold State.memRead
  dsimp only
  split
  · rfl
  · exact bus

/-- The read-only path answers what the real read answers (R64, D22). -/
theorem State.cpuPeek_eq (s : State) (a : Addr) : s.cpuPeek a = (s.memRead a).val := rfl

/-- Where a read has no side effect it answers what the read-only path answers and changes nothing (R64, R75). -/
theorem State.memRead_of_noEffect (s : State) {a : Addr} (h : readHasEffect a = false) :
    s.memRead a = ⟨s.cpuPeek a, s⟩ := by
  have bus : (s.busRead a).st = s := by
    simp only [readHasEffect, Bool.or_eq_false_iff, Bool.and_eq_false_iff, decide_eq_false_iff_not,
      beq_eq_false_iff_ne] at h
    obtain ⟨⟨h1, h2⟩, h3⟩ := h
    unfold State.busRead
    dsimp only
    split
    · rfl
    split
    · have e2 : a.toNat % 8 ≠ 2 := by omega
      have e7 : a.toNat % 8 ≠ 7 := by omega
      unfold State.ppuRegRead
      split <;> first | contradiction | rfl
    split <;> rfl
  have st : (s.memRead a).st = s := by
    unfold State.memRead
    split
    · rfl
    · exact bus
  exact congrArg (Read.mk (s.cpuPeek a)) st

/-- A read of system RAM (R61, R65). -/
theorem State.memRead_ramWindow (s : State) {a : Addr} (h : a.toNat < 0x2000) :
    s.memRead a = ⟨Mem.read s.bus.ram (a.toNat % 0x800), s⟩ := by
  unfold State.memRead
  have : s.cart.bind (·.cpuRead a) = none := by
    cases s.cart with
    | none => rfl
    | some c => exact c.cpuRead_low (by omega)
  rw [this]
  simp [State.busRead, h]

theorem State.cpuPeek_ramWindow (s : State) {a : Addr} (h : a.toNat < 0x2000) :
    s.cpuPeek a = Mem.read s.bus.ram (a.toNat % 0x800) := by
  rw [s.cpuPeek_eq, s.memRead_ramWindow h]

/-! ## Writes -/

/-- A write outside the cartridge's window goes straight to the bus (R61, R540). -/
theorem State.memWrite_low (s : State) {a : Addr} (d : Byte) (h : a.toNat < 0x6000) :
    s.memWrite a d = s.busWrite a d := by
  unfold State.memWrite
  cases hc : s.cart with
  | none => rfl
  | some c => simp [c.cpuWrite_low d h, ← hc]

/-- A write of system RAM (R61, R65). -/
theorem State.memWrite_ramWindow (s : State) {a : Addr} (d : Byte) (h : a.toNat < 0x2000) :
    s.memWrite a d = { s with bus := { s.bus with ram := Mem.write s.bus.ram (a.toNat % 0x800) d } } := by
  rw [s.memWrite_low d (by omega)]
  simp [State.busWrite, h]

/-- A write from 0x4018 on reaches the cartridge and nothing else (R61, R68). -/
theorem State.memWrite_high (s : State) {a : Addr} (d : Byte) (h : 0x4018 ≤ a.toNat) :
    s.memWrite a d = { s with cart := s.cart.map fun c => (c.cpuWrite a d).cart } := by
  have bus : ∀ t : State, t.busWrite a d = t := by
    intro t
    have ha : isAudioWrite a.toNat = false := by
      simp only [isAudioWrite, Bool.or_eq_false_iff, Bool.and_eq_false_iff, decide_eq_false_iff_not,
        beq_eq_false_iff_ne]
      omega
    simp only [State.busWrite, ha]
    rw [if_neg (by omega), if_neg (by omega), if_neg (by simp), if_neg (by omega), if_neg (by omega)]
  unfold State.memWrite
  cases hc : s.cart with
  | none => simp only [bus, Option.map_none]; rw [← hc]
  | some c =>
    simp only [bus, Option.map_some]
    split <;> rfl

theorem State.ppuRegWrite_cpu (s : State) (r : Nat) (d : Byte) : (s.ppuRegWrite r d).cpu = s.cpu := by
  unfold State.ppuRegWrite
  split <;> try rfl
  unfold State.writeData State.ppuWrite
  dsimp only
  split
  · rfl
  · split <;> rfl

/-- A CPU-side write never changes a CPU register. -/
@[simp] theorem State.memWrite_cpu (s : State) (a : Addr) (d : Byte) : (s.memWrite a d).cpu = s.cpu := by
  by_cases h : 0x4018 ≤ a.toNat
  · rw [s.memWrite_high d h]
  · rw [s.memWrite_low d (by omega)]
    unfold State.busWrite
    dsimp only
    split
    · rfl
    split
    · exact s.ppuRegWrite_cpu _ d
    split
    · rfl
    split
    · rfl
    split <;> rfl

theorem State.ppuRegWrite_withCpu (s : State) (c : Cpu) (r : Nat) (d : Byte) :
    ({ s with cpu := c } : State).ppuRegWrite r d = { s.ppuRegWrite r d with cpu := c } := by
  unfold State.ppuRegWrite
  split <;> try rfl
  unfold State.writeData State.ppuWrite
  dsimp only [Ppu.dataAddr, State.mirror]
  cases s.cart with
  | none => rfl
  | some k =>
    dsimp only
    split <;> rfl

/-- A write does the same, but for the CPU, whatever the CPU's registers are. -/
theorem State.memWrite_withCpu (s : State) (c : Cpu) (a : Addr) (d : Byte) :
    ({ s with cpu := c } : State).memWrite a d = { s.memWrite a d with cpu := c } := by
  by_cases h : 0x4018 ≤ a.toNat
  · rw [State.memWrite_high _ d h, State.memWrite_high _ d h]
  · rw [State.memWrite_low _ d (by omega), State.memWrite_low _ d (by omega)]
    unfold State.busWrite
    dsimp only
    split
    · rfl
    split
    · exact s.ppuRegWrite_withCpu c _ d
    split
    · rfl
    split
    · rfl
    split <;> rfl

/-- A write below the cartridge's window changes nothing of the cartridge that the CPU reads (R486, R540). -/
theorem State.memWrite_cpuRead (s : State) {a : Addr} (d : Byte) (b : Addr) (h : a.toNat < 0x6000) :
    (s.memWrite a d).cart.bind (·.cpuRead b) = s.cart.bind (·.cpuRead b) := by
  rw [s.memWrite_low d h]
  unfold State.busWrite State.ppuRegWrite State.writeData State.ppuWrite
  dsimp only
  repeat' split
  all_goals first | rfl | skip
  next hc _ => simp [hc, Cart.cpuRead_ppuWrite]

/-! ## Stack -/

theorem toNat_stackAddr (sp : Byte) : (stackAddr sp).toNat = 0x100 + sp.toNat := by
  have := sp.isLt
  simp only [stackAddr, BitVec.toNat_add, toNat_zext16]
  simp; omega

/-- A push writes the stack page of system RAM and moves the stack pointer down (R9, R21, R86). -/
theorem State.push_eq (s : State) (v : Byte) :
    s.push v = { s with
      cpu := { s.cpu with sp := s.cpu.sp - 1 }
      bus := { s.bus with ram := Mem.write s.bus.ram (0x100 + s.cpu.sp.toNat) v } } := by
  have := s.cpu.sp.isLt
  have ha := toNat_stackAddr s.cpu.sp
  unfold State.push
  rw [s.memWrite_ramWindow v (by omega), ha, Nat.mod_eq_of_lt (by omega)]
  rfl

/-- A pull moves the stack pointer up and reads the stack page of system RAM (R9, R21, R86). -/
theorem State.pull_eq (s : State) :
    s.pull = ⟨Mem.read s.bus.ram (0x100 + (s.cpu.sp + 1).toNat), s.setSp (s.cpu.sp + 1)⟩ := by
  have := (s.cpu.sp + 1).isLt
  have ha := toNat_stackAddr (s.cpu.sp + 1)
  unfold State.pull
  rw [State.memRead_ramWindow _ (by omega), ha, Nat.mod_eq_of_lt (by omega)]
  rfl

/-- A push of a 16-bit value: high byte at the higher address (R72). -/
theorem State.pushWord_eq (s : State) (v : Addr) :
    s.pushWord v = { s with
      cpu := { s.cpu with sp := s.cpu.sp - 1 - 1 }
      bus := { s.bus with
        ram := Mem.write (Mem.write s.bus.ram (0x100 + s.cpu.sp.toNat) (page v))
          (0x100 + (s.cpu.sp - 1).toNat) (lowByte v) } } := by
  unfold State.pushWord
  rw [s.push_eq, State.push_eq]

/-- A pull of a 16-bit value, low byte first. -/
theorem State.pullWord_eq (s : State) :
    s.pullWord = ⟨joinBytes (Mem.read s.bus.ram (0x100 + (s.cpu.sp + 1 + 1).toNat))
      (Mem.read s.bus.ram (0x100 + (s.cpu.sp + 1).toNat)), s.setSp (s.cpu.sp + 1 + 1)⟩ := by
  unfold State.pullWord
  rw [s.pull_eq]
  dsimp only
  rw [State.pull_eq]
  rfl

/-! ## Exceptions -/

/-- Reading a vector has no side effect. -/
theorem State.memRead16_vector (s : State) {v : Addr} (h : 0x4018 ≤ v.toNat) (h' : v.toNat < 0xFFFF) :
    s.memRead16 v = ⟨joinBytes (s.cpuPeek (v + 1)) (s.cpuPeek v), s⟩ := by
  have e : ∀ a : Addr, 0x4018 ≤ a.toNat → readHasEffect a = false := by
    intro a ha
    simp only [readHasEffect, Bool.or_eq_false_iff, Bool.and_eq_false_iff, decide_eq_false_iff_not,
      beq_eq_false_iff_ne]
    omega
  have hv : (v + 1).toNat = v.toNat + 1 := by
    simp only [BitVec.toNat_add]
    simp; omega
  unfold State.memRead16
  rw [s.memRead_of_noEffect (e v h)]
  dsimp only
  rw [s.memRead_of_noEffect (e (v + 1) (by omega))]

/-- What a read-only read from 0x4018 on depends on: the cartridge. -/
theorem State.cpuPeek_high {s t : State} {a : Addr} (h : 0x4018 ≤ a.toNat) (hc : t.cart = s.cart) :
    t.cpuPeek a = s.cpuPeek a := by
  have bus : ∀ u : State, u.busRead a = ⟨0, u⟩ := by
    intro u
    simp only [State.busRead]
    rw [if_neg (by omega), if_neg (by omega), if_neg (by omega), if_neg (by omega), if_neg (by omega)]
  unfold State.cpuPeek State.memRead
  rw [hc]
  split
  · rfl
  · rw [bus, bus]

/-- Taking an exception (R248, R270): three bytes on the stack, I set, `PC` from the vector, nothing else. -/
theorem State.takeException_eq (s : State) {v : Addr} (image : Byte) (h : 0x4018 ≤ v.toNat) (h' : v.toNat < 0xFFFF) :
    s.takeException v image = { s with
      cpu := { s.cpu with
        sp := s.cpu.sp - 1 - 1 - 1, p := setI true s.cpu.p, pc := joinBytes (s.cpuPeek (v + 1)) (s.cpuPeek v) }
      bus := { s.bus with
        ram := Mem.write (Mem.write (Mem.write s.bus.ram (0x100 + s.cpu.sp.toNat) (page s.cpu.pc))
            (0x100 + (s.cpu.sp - 1).toNat) (lowByte s.cpu.pc))
          (0x100 + (s.cpu.sp - 1 - 1).toNat) image } } := by
  have hv : (v + 1).toNat = v.toNat + 1 := by
    simp only [BitVec.toNat_add]
    simp; omega
  unfold State.takeException
  dsimp only
  rw [State.memRead16_vector _ h h', s.pushWord_eq, State.push_eq]
  dsimp only
  rw [State.cpuPeek_high (s := s) h, State.cpuPeek_high (s := s) (a := v + 1) (by omega)] <;> rfl

/-- Interrupt entry (R270). -/
theorem State.enter_eq (s : State) {v : Addr} (cost : Nat) (h : 0x4018 ≤ v.toNat) (h' : v.toNat < 0xFFFF) :
    s.enter v cost = { s with
      cpu := { s.cpu with
        sp := s.cpu.sp - 1 - 1 - 1, p := setB false (setI true s.cpu.p),
        pc := joinBytes (s.cpuPeek (v + 1)) (s.cpuPeek v), cycles := cost }
      bus := { s.bus with
        ram := Mem.write (Mem.write (Mem.write s.bus.ram (0x100 + s.cpu.sp.toNat) (page s.cpu.pc))
            (0x100 + (s.cpu.sp - 1).toNat) (lowByte s.cpu.pc))
          (0x100 + (s.cpu.sp - 1 - 1).toNat) (interruptImage s.cpu.p) } } := by
  unfold State.enter
  dsimp only
  rw [s.takeException_eq _ h h']
  rfl

/-- Return from an exception (R249, R280): status and `PC` from the three bytes above the stack pointer. -/
theorem State.returnFromException_eq (s : State) :
    s.returnFromException = { s with
      cpu := { s.cpu with
        sp := s.cpu.sp + 1 + 1 + 1,
        p := pulledStatus (Mem.read s.bus.ram (0x100 + (s.cpu.sp + 1).toNat)),
        pc := joinBytes (Mem.read s.bus.ram (0x100 + (s.cpu.sp + 1 + 1 + 1).toNat))
          (Mem.read s.bus.ram (0x100 + (s.cpu.sp + 1 + 1).toNat)) } } := by
  unfold State.returnFromException
  dsimp only
  rw [s.pull_eq]
  dsimp only
  rw [State.pullWord_eq]
  rfl

/-! ## Reset -/

/-- `Bus.Reset()` of the state the spec gives no cartridge is `State.reset`, whatever its memories are kept as. -/
theorem State.busReset_reset : State.reset.busReset = State.reset := by decide

end Sys2Proof.Machine
end

