-- ==== Sys2Proof/Laws/Operands.lean ====
section
/-! SUPPORT. Operands and instruction shapes: where each mode finds its operand, what reading it can change, and what
each shape answers, once. -/

namespace Sys2Proof.Machine

/-! ## Addressing modes -/

theorem zeroPage_toNat (z : Byte) : (zeroPage z).toNat = z.toNat := toNat_zext16 z

theorem zeroPage_eq (z : Byte) : zeroPage z = BitVec.ofNat 16 z.toNat := by
  apply BitVec.eq_of_toNat_eq
  have := z.isLt
  rw [zeroPage_toNat, BitVec.toNat_ofNat]
  omega

/-- A read in the zero page is a read of system RAM: no side effect (R65, R133). -/
theorem State.memRead_zeroPage (s : State) (z : Byte) : s.memRead (zeroPage z) = ⟨Mem.read s.bus.ram z.toNat, s⟩ := by
  have := z.isLt
  rw [s.memRead_ramWindow (by rw [zeroPage_toNat]; omega), zeroPage_toNat, Nat.mod_eq_of_lt (by omega)]

theorem State.readPair_zeroPage (s : State) (y z : Byte) :
    s.readPair (zeroPage y) (zeroPage z) = ⟨joinBytes (Mem.read s.bus.ram z.toNat) (Mem.read s.bus.ram y.toNat), s⟩ := by
  unfold State.readPair
  rw [s.memRead_zeroPage y]
  dsimp only
  rw [s.memRead_zeroPage z]

/-- Only the indirect jump's mode can change anything: it reads its pointer anywhere. -/
theorem State.locate_st (s : State) {m : MemMode} (h : ∀ p, m ≠ .ind p) : (s.locate m).st = s := by
  cases m with
  | ind p => exact absurd rfl (h p)
  | izx z => simp [State.locate, State.readPair_zeroPage]
  | izy z => simp [State.locate, State.readPair_zeroPage, indexed]
  | zp0 z => rfl
  | zpx z => rfl
  | zpy z => rfl
  | abs a => rfl
  | abx a => rfl
  | aby a => rfl

theorem State.locate_frame (s : State) (m : MemMode) : SameButReads s (s.locate m).st := by
  cases m with
  | ind p =>
    simp only [State.locate, State.readPair]
    exact (s.memRead_frame _).trans (State.memRead_frame _ _)
  | _ => rw [s.locate_st (by simp)]; exact SameButReads.refl s

theorem State.source_frame (s : State) (m : Mode) : SameButReads s (s.source m).st := by
  cases m with
  | mem m => exact (s.locate_frame m).trans (State.memRead_frame _ _)
  | _ => exact SameButReads.refl s

@[simp] theorem State.locate_cpu (s : State) (m : MemMode) : (s.locate m).st.cpu = s.cpu := (s.locate_frame m).cpu
@[simp] theorem State.source_cpu (s : State) (m : Mode) : (s.source m).st.cpu = s.cpu := (s.source_frame m).cpu

/-! ## The cycle counter does not matter to an operand -/

theorem State.memRead_setCycles (s : State) (n : Nat) (a : Addr) :
    (s.setCycles n).memRead a = ⟨(s.memRead a).val, (s.memRead a).st.setCycles n⟩ := by
  rw [State.setCycles, s.memRead_withCpu]
  simp [State.setCycles]

theorem State.memWrite_setCycles (s : State) (n : Nat) (a : Addr) (d : Byte) :
    (s.setCycles n).memWrite a d = (s.memWrite a d).setCycles n := by
  rw [State.setCycles, s.memWrite_withCpu]
  simp [State.setCycles]

theorem State.locate_setCycles (s : State) (n : Nat) (m : MemMode) :
    (s.setCycles n).locate m = ⟨(s.locate m).ea, (s.locate m).crossed, (s.locate m).st.setCycles n⟩ := by
  cases m with
  | ind p =>
    simp only [State.locate, State.readPair]
    rw [s.memRead_setCycles]
    dsimp only
    rw [State.memRead_setCycles]
  | izx z => simp [State.locate, State.readPair_zeroPage]
  | izy z => simp [State.locate, State.readPair_zeroPage, indexed]
  | zp0 z => rfl
  | zpx z => rfl
  | zpy z => rfl
  | abs a => rfl
  | abx a => rfl
  | aby a => rfl

theorem State.source_setCycles (s : State) (n : Nat) (m : Mode) :
    (s.setCycles n).source m = ⟨(s.source m).val, (s.source m).crossed, (s.source m).st.setCycles n⟩ := by
  cases m with
  | mem m =>
    simp only [State.source]
    rw [s.locate_setCycles]
    dsimp only
    rw [State.memRead_setCycles]
  | _ => rfl

/-- Only `ABX`, `ABY` and `IZY` report a page crossing (R115, R130). -/
theorem State.locate_crossed (s : State) {m : MemMode} (h : (s.locate m).crossed = true) :
    (∃ a, m = .abx a) ∨ (∃ a, m = .aby a) ∨ ∃ z, m = .izy z := by
  cases m <;> simp_all [State.locate]

/-! ## What each shape answers -/

/-- A reading instruction: its operation on the state after the operand's reads, at the cost of R115. The operation
must not touch the cycle counter. -/
theorem readOp_eq (base : Nat) (x2 : Bool) (f : Byte → State → State) (m : Mode) (s : State)
    (hf : ∀ v n t, f v (State.setCycles t n) = (f v t).setCycles n) :
    readOp base x2 f m s = .next ((f (s.source m).val (s.source m).st).setCycles
      (base + if (s.source m).crossed && x2 then 1 else 0)) := by
  unfold readOp
  rw [s.source_setCycles]
  dsimp only
  rw [hf]
  rfl

theorem storeOp_eq (base : Nat) (reg : Cpu → Byte) (m : MemMode) (s : State)
    (hr : ∀ c n, reg { c with cycles := n } = reg c) :
    storeOp base reg m s = .next (((s.locate m).st.memWrite (s.locate m).ea (reg s.cpu)).setCycles base) := by
  unfold storeOp
  rw [s.locate_setCycles]
  dsimp only
  rw [State.memWrite_setCycles]
  congr 3
  rw [show ((s.locate m).st.setCycles base).cpu = { s.cpu with cycles := base } by simp [State.setCycles], hr]

theorem modifyOp_eq (base : Nat) (f : Byte → Byte → Modified) (m : MemMode) (s : State) :
    let l := s.locate m
    let r := l.st.memRead l.ea
    let o := f r.val s.cpu.p
    modifyOp base f m s = .next (((r.st.memWrite l.ea o.val).setP o.p).setCycles base) := by
  unfold modifyOp
  rw [s.locate_setCycles]
  dsimp only
  rw [State.memRead_setCycles]
  dsimp only
  rw [State.memWrite_setCycles, State.setCycles_p, State.memRead_cpu, State.locate_cpu]
  rfl

end Sys2Proof.Machine
end

