-- ==== Sys2Proof/Laws/Dispatch.lean ====
section
/-! SUPPORT. `exec` by mnemonic: what the 256 arms say, folded into one definition over the mnemonic and the mode of an
instruction, with the base cycle count of the opcode matrix for a documented one. `exec_eq_run` says once that they are
the same; later proofs split on the mnemonic. -/

namespace Sys2Proof.Machine

/-- The meaning of a mnemonic with base count `base` and mode `m`; a pair that is no instruction does nothing. -/
def runLine (mn : Mnem) (base : Nat) (m : Mode) (s : State) : Host.Outcome State Fault Refusal :=
  match mn with
  | .lda => readOp base true loadA m s
  | .ldx => readOp base true loadX m s
  | .ldy => readOp base true loadY m s
  | .and => readOp base true andA m s
  | .ora => readOp base true orA m s
  | .eor => readOp base true eorA m s
  | .adc => readOp base true adcA m s
  | .sbc => readOp base true sbcA m s
  | .cmp => readOp base true compareA m s
  | .cpx => readOp base false compareX m s
  | .cpy => readOp base false compareY m s
  | .bit => readOp base false bitTest m s
  | .sta => match m with | .mem m => storeOp base Cpu.a m s | _ => .next s
  | .stx => match m with | .mem m => storeOp base Cpu.x m s | _ => .next s
  | .sty => match m with | .mem m => storeOp base Cpu.y m s | _ => .next s
  | .inc => match m with | .mem m => modifyOp base incByte m s | _ => .next s
  | .dec => match m with | .mem m => modifyOp base decByte m s | _ => .next s
  | .asl => match m with | .mem m => modifyOp base aslByte m s | _ => accumulatorOp base aslByte s
  | .lsr => match m with | .mem m => modifyOp base lsrByte m s | _ => accumulatorOp base lsrByte s
  | .rol => match m with | .mem m => modifyOp base rolByte m s | _ => accumulatorOp base rolByte s
  | .ror => match m with | .mem m => modifyOp base rorByte m s | _ => accumulatorOp base rorByte s
  | .tax => impliedOp base (fun s => loadX s.cpu.a s) s
  | .tay => impliedOp base (fun s => loadY s.cpu.a s) s
  | .txa => impliedOp base (fun s => loadA s.cpu.x s) s
  | .tya => impliedOp base (fun s => loadA s.cpu.y s) s
  | .tsx => impliedOp base (fun s => loadX s.cpu.sp s) s
  | .txs => impliedOp base (fun s => s.setSp s.cpu.x) s
  | .pha => impliedOp base (fun s => s.push s.cpu.a) s
  | .php => impliedOp base (fun s => s.push (softImage s.cpu.p)) s
  | .pla => impliedOp base pullA s
  | .plp => impliedOp base pullP s
  | .inx => impliedOp base (fun s => loadX (s.cpu.x + 1) s) s
  | .iny => impliedOp base (fun s => loadY (s.cpu.y + 1) s) s
  | .dex => impliedOp base (fun s => loadX (s.cpu.x - 1) s) s
  | .dey => impliedOp base (fun s => loadY (s.cpu.y - 1) s) s
  | .jmp => match m with | .mem m => jumpTo base m s | _ => .next s
  | .jsr => match m with | .mem m => callTo m s | _ => .next s
  | .rts => impliedOp base returnFromSubroutine s
  | .bcc => match m with | .rel r => branchOp (fun p => !flagC p) r s | _ => .next s
  | .bcs => match m with | .rel r => branchOp flagC r s | _ => .next s
  | .beq => match m with | .rel r => branchOp flagZ r s | _ => .next s
  | .bne => match m with | .rel r => branchOp (fun p => !flagZ p) r s | _ => .next s
  | .bmi => match m with | .rel r => branchOp flagN r s | _ => .next s
  | .bpl => match m with | .rel r => branchOp (fun p => !flagN p) r s | _ => .next s
  | .bvc => match m with | .rel r => branchOp (fun p => !flagV p) r s | _ => .next s
  | .bvs => match m with | .rel r => branchOp flagV r s | _ => .next s
  | .clc => impliedOp base (fun s => s.updP (setC false)) s
  | .sec => impliedOp base (fun s => s.updP (setC true)) s
  | .cli => impliedOp base (fun s => s.updP (setI false)) s
  | .sei => impliedOp base (fun s => s.updP (setI true)) s
  | .cld => impliedOp base (fun s => s.updP (setD false)) s
  | .sed => impliedOp base (fun s => s.updP (setD true)) s
  | .clv => impliedOp base (fun s => s.updP (setV false)) s
  | .nop => impliedOp base (fun s => s) s
  | .brk => impliedOp base breakEntry s
  | .rti => impliedOp base State.returnFromException s
  | .ill op => illegalOp op s

/-- Every arm of `exec` is the meaning of its mnemonic, on the operand of its row, with the base count that the opcode
matrix gives its opcode (R110, R111, R115), or of `ILLEGAL_CYCLES` (R112). -/
theorem exec_eq_run (i : Instr) (s : State) : exec i s = runLine i.line.mnem i.baseCycles i.line.mode s := by
  cases i <;> rfl

/-- A cost of `ILLEGAL_CYCLES` is 1 to 8 (00_scope.md R6). -/
theorem illegalCycles_bounds (q : Params) (op : Byte) : 1 ≤ illegalCycles q op ∧ illegalCycles q op ≤ 8 := by
  unfold illegalCycles
  dsimp only
  generalize Option.bind _ _ = c
  cases c with
  | none => exact ⟨le_refl 1, by decide⟩
  | some c => exact ⟨Nat.le_add_left 1 c.val, Nat.succ_le_of_lt c.isLt⟩

/-- The default costs are the opcode matrix's (R110, R112). -/
theorem illegalCycles_default {i : Instr} {op : Byte} (h : i.line.mnem = .ill op) :
    illegalCycles Params.default op = i.baseCycles := by
  cases i <;> cases h <;> rfl

/-- Every instruction goes on: none of them faults or refuses (R261). -/
theorem exec_goes_on (i : Instr) (s : State) : ∃ t, exec i s = .next t := by
  have branch : ∀ (c : Byte → Bool) (r : Byte), ∃ t, branchOp c r s = .next t := by
    intro c r
    unfold branchOp
    dsimp only
    split <;> exact ⟨_, rfl⟩
  rw [exec_eq_run]
  cases i.line.mnem <;> first
    | exact ⟨_, rfl⟩
    | (cases i.line.mode <;> first | exact ⟨_, rfl⟩ | (simp only [runLine]; exact branch _ _))

end Sys2Proof.Machine

namespace Sys2Proof

/-- The memory formats of the mnemonics that store: all of them take a memory operand (R153 to R155, R200, R201). -/
theorem Instr.mode_of_store (i : Instr) (h : [Mnem.sta, .stx, .sty, .inc, .dec, .jmp, .jsr].contains i.line.mnem = true) :
    ∃ m, i.line.mode = .mem m := by
  cases i <;> first | exact ⟨_, rfl⟩ | exact nomatch (h : false = true)

/-- A shift works on `A` or on memory (R206 to R209). -/
theorem Instr.mode_of_shift (i : Instr) (h : [Mnem.asl, .lsr, .rol, .ror].contains i.line.mnem = true) :
    i.line.mode = .acc ∨ ∃ m, i.line.mode = .mem m := by
  cases i <;> first | exact .inl rfl | exact .inr ⟨_, rfl⟩ | exact nomatch (h : false = true)

/-- A reading instruction reads an immediate byte or memory (R101, R111). -/
theorem Instr.mode_of_read (i : Instr)
    (h : [Mnem.lda, .ldx, .ldy, .and, .ora, .eor, .adc, .sbc, .cmp, .cpx, .cpy, .bit].contains i.line.mnem = true) :
    (∃ v, i.line.mode = .imm v) ∨ ∃ m, i.line.mode = .mem m := by
  cases i <;> first | exact .inl ⟨_, rfl⟩ | exact .inr ⟨_, rfl⟩ | exact nomatch (h : false = true)

/-- A branch has a relative operand (R141). -/
theorem Instr.mode_of_branch (i : Instr)
    (h : [Mnem.bcc, .bcs, .beq, .bne, .bmi, .bpl, .bvc, .bvs].contains i.line.mnem = true) :
    ∃ r, i.line.mode = .rel r := by
  cases i <;> first | exact ⟨_, rfl⟩ | exact nomatch (h : false = true)

end Sys2Proof
end

