-- ==== Sys2Proof/Laws/Exec.lean ====
section
/-! SUPPORT. An instruction reaches the machine outside the CPU registers through CPU-side reads and writes alone:
whatever holds of each read and each write, and of any change of the CPU's registers, holds of the instruction, of the
fetch before it and of the whole CPU or DMA slot. -/

namespace Sys2Proof.Machine

/-- A relation between a state and a later one that CPU-side reads, CPU-side writes and changes of CPU registers all
keep to. -/
structure AccessClosed (R : State → State → Prop) : Prop where
  trans : ∀ {s t u}, R s t → R t u → R s u
  cpu : ∀ (s : State) (c : Cpu), R s { s with cpu := c }
  read : ∀ (s : State) (a : Addr), R s (s.memRead a).st
  write : ∀ (s : State) (a : Addr) (d : Byte), R s (s.memWrite a d)

namespace AccessClosed

variable {R : State → State → Prop} (hR : AccessClosed R)

include hR

theorem refl (s : State) : R s s := hR.cpu s s.cpu

theorem setP (s : State) (v : Byte) : R s (s.setP v) := hR.cpu s _
theorem setPc (s : State) (v : Addr) : R s (s.setPc v) := hR.cpu s _
theorem setSp (s : State) (v : Byte) : R s (s.setSp v) := hR.cpu s _
theorem setA (s : State) (v : Byte) : R s (s.setA v) := hR.cpu s _
theorem setCycles (s : State) (n : Nat) : R s (s.setCycles n) := hR.cpu s _

theorem readPair (s : State) (a b : Addr) : R s (s.readPair a b).st := hR.trans (hR.read s a) (hR.read _ b)

theorem memRead16 (s : State) (a : Addr) : R s (s.memRead16 a).st := hR.trans (hR.read s a) (hR.read _ (a + 1))

theorem push (s : State) (v : Byte) : R s (s.push v) := hR.trans (hR.write s _ v) (hR.setSp _ _)

theorem pushWord (s : State) (v : Addr) : R s (s.pushWord v) := hR.trans (hR.push s _) (hR.push _ _)

theorem pull (s : State) : R s s.pull.st := hR.trans (hR.setSp s _) (hR.read _ _)

theorem pullWord (s : State) : R s s.pullWord.st := hR.trans (hR.pull s) (hR.pull _)

theorem locate (s : State) (m : MemMode) : R s (s.locate m).st := by
  cases m with
  | ind p => exact hR.readPair s _ _
  | _ => rw [s.locate_st (by simp)]; exact hR.refl s

theorem source (s : State) (m : Mode) : R s (s.source m).st := by
  cases m with
  | mem m => exact hR.trans (hR.locate s m) (hR.read _ _)
  | _ => exact hR.refl s

theorem fetchByte (s : State) : R s s.fetchByte.st := hR.trans (hR.read s _) (hR.setPc _ _)

theorem fetch (s : State) : R s s.fetch.st := by
  unfold State.fetch
  dsimp only
  split
  · exact hR.fetchByte s
  · exact hR.trans (hR.fetchByte s) (hR.fetchByte _)
  · exact hR.trans (hR.fetchByte s) (hR.trans (hR.fetchByte _) (hR.fetchByte _))

theorem takeException (s : State) (v : Addr) (image : Byte) : R s (s.takeException v image) :=
  hR.trans (hR.trans (hR.trans (hR.pushWord s _) (hR.push _ image)) (hR.setP _ _))
    (hR.trans (hR.memRead16 _ v) (hR.setPc _ _))

theorem enter (s : State) (v : Addr) (cost : Nat) : R s (s.enter v cost) :=
  hR.trans (hR.takeException s v _) (hR.trans (hR.setP _ _) (hR.setCycles _ _))

theorem nmi (s : State) : R s s.nmi := hR.enter s _ _

theorem irq (s : State) : R s s.irq := by
  unfold State.irq
  split
  · exact hR.refl s
  · exact hR.enter s _ _

theorem returnFromException (s : State) : R s s.returnFromException :=
  hR.trans (hR.pull s) (hR.trans (hR.setP _ _) (hR.trans (hR.pullWord _) (hR.setPc _ _)))

theorem readOp {base : Nat} {x2 : Bool} {f : Byte → State → State} {m : Mode} {s t : State}
    (hf : ∀ v u, R u (f v u)) (h : readOp base x2 f m s = .next t) : R s t := by
  cases h
  exact hR.trans (hR.setCycles s _) (hR.trans (hR.source _ _) (hR.trans (hf _ _) (hR.setCycles _ _)))

theorem storeOp {base : Nat} {reg : Cpu → Byte} {m : MemMode} {s t : State}
    (h : storeOp base reg m s = .next t) : R s t := by
  cases h
  exact hR.trans (hR.setCycles s _) (hR.trans (hR.locate _ _) (hR.write _ _ _))

theorem modifyOp {base : Nat} {f : Byte → Byte → Modified} {m : MemMode} {s t : State}
    (h : modifyOp base f m s = .next t) : R s t := by
  cases h
  exact hR.trans (hR.setCycles s _)
    (hR.trans (hR.locate _ _) (hR.trans (hR.read _ _) (hR.trans (hR.write _ _ _) (hR.setP _ _))))

theorem accumulatorOp {base : Nat} {f : Byte → Byte → Modified} {s t : State}
    (h : accumulatorOp base f s = .next t) : R s t := by
  cases h
  exact hR.trans (hR.setCycles s _) (hR.trans (hR.setA _ _) (hR.setP _ _))

theorem impliedOp {base : Nat} {f : State → State} {s t : State} (hf : ∀ u, R u (f u))
    (h : impliedOp base f s = .next t) : R s t := by
  cases h
  exact hR.trans (hR.setCycles s _) (hf _)

theorem branchOp {c : Byte → Bool} {r : Byte} {s t : State} (h : branchOp c r s = .next t) : R s t := by
  unfold Machine.branchOp at h
  dsimp only at h
  split at h <;> cases h <;> exact hR.cpu s _

/-- Every instruction keeps to the relation. -/
theorem exec {i : Instr} {s t : State} (h : exec i s = .next t) : R s t := by
  rw [exec_eq_run] at h
  generalize i.line.mnem = mn at h
  generalize i.baseCycles = base at h
  generalize i.line.mode = md at h
  cases mn <;> simp only [runLine] at h
  case lda | ldx | ldy | and | ora | eor | adc | sbc | cmp | cpx | cpy | bit =>
    exact hR.readOp (fun _ u => hR.cpu u _) h
  case sta | stx | sty =>
    split at h
    · exact hR.storeOp h
    · exact Host.Outcome.next.inj h ▸ hR.refl s
  case inc | dec =>
    split at h
    · exact hR.modifyOp h
    · exact Host.Outcome.next.inj h ▸ hR.refl s
  case asl | lsr | rol | ror =>
    split at h
    · exact hR.modifyOp h
    · exact hR.accumulatorOp h
  case bcc | bcs | beq | bne | bmi | bpl | bvc | bvs =>
    split at h
    · exact hR.branchOp h
    · exact Host.Outcome.next.inj h ▸ hR.refl s
  case pha | php => exact hR.impliedOp (fun _ => hR.push _ _) h
  case pla | plp => exact hR.impliedOp (fun _ => hR.trans (hR.pull _) (hR.cpu _ _)) h
  case rts => exact hR.impliedOp (fun _ => hR.trans (hR.pullWord _) (hR.setPc _ _)) h
  case rti => exact hR.impliedOp (fun _ => hR.returnFromException _) h
  case brk => exact hR.impliedOp (fun _ => hR.trans (hR.setPc _ _) (hR.takeException _ _ _)) h
  case jmp =>
    split at h
    · exact Host.Outcome.next.inj h ▸ hR.trans (hR.setCycles s _) (hR.trans (hR.locate _ _) (hR.setPc _ _))
    · exact Host.Outcome.next.inj h ▸ hR.refl s
  case jsr =>
    split at h
    · exact Host.Outcome.next.inj h ▸ hR.trans (hR.setCycles s _)
        (hR.trans (hR.locate _ _) (hR.trans (hR.pushWord _ _) (hR.setPc _ _)))
    · exact Host.Outcome.next.inj h ▸ hR.refl s
  all_goals exact hR.impliedOp (fun u => hR.cpu u _) h

/-- So does a CPU tick. -/
theorem cpuTick {s t : State} (h : s.cpuTick = .next t) : R s t := by
  unfold State.cpuTick at h
  split at h
  · dsimp only at h
    obtain ⟨u, hu⟩ := exec_goes_on s.fetch.instr s.fetch.st
    rw [hu] at h
    cases h
    exact hR.trans (hR.fetch s) (hR.trans (hR.exec hu) (hR.setCycles _ _))
  · cases h
    exact hR.setCycles _ _

end AccessClosed

end Sys2Proof.Machine
end

