-- ==== Sys2Proof/Laws/PerInstr.lean ====
section
/-! SUPPORT. One fact per constructor of `Instr`: its row in the decoder's table (30_encoding.md R110) and its row in the
encoder's table (R111, R112) are the same row. -/

namespace Sys2Proof.Laws

/-- The instruction is well formed, its encoding has the length of its format (R100), and the cell of the opcode matrix
at its opcode byte has its mnemonic, its format and its base cycle count. -/
def RowInTable.Statement (i : Instr) : Prop :=
  i.wellFormed = true ∧ (encode i).length = i.length ∧ (encode i).head? = some i.opcode
    ∧ (opEntry i.opcode).mnem = i.line.mnem ∧ (opEntry i.opcode).fmt = i.line.mode.format
    ∧ i.baseCycles = (opEntry i.opcode).cycles

theorem RowInTable.of {i : Instr} (op : Byte) (h : i.opcode = op)
    (k : i.wellFormed = true ∧ (encode i).length = i.length ∧ (encode i).head? = some op
      ∧ (opEntry op).mnem = i.line.mnem ∧ (opEntry op).fmt = i.line.mode.format
      ∧ i.baseCycles = (opEntry op).cycles) : RowInTable.Statement i := by
  unfold RowInTable.Statement
  rw [h]
  exact k

theorem RowInTable.ldaIzx (z : Byte) : RowInTable.Statement (.ldaIzx z) :=
  RowInTable.of 0xA1 rfl ⟨rfl, rfl, rfl, rfl, rfl, rfl⟩
theorem RowInTable.ldaZp0 (z : Byte) : RowInTable.Statement (.ldaZp0 z) :=
  RowInTable.of 0xA5 rfl ⟨rfl, rfl, rfl, rfl, rfl, rfl⟩
theorem RowInTable.ldaImm (v : Byte) : RowInTable.Statement (.ldaImm v) :=
  RowInTable.of 0xA9 rfl ⟨rfl, rfl, rfl, rfl, rfl, rfl⟩
theorem RowInTable.ldaAbs (a : Addr) : RowInTable.Statement (.ldaAbs a) :=
  RowInTable.of 0xAD rfl ⟨rfl, rfl, rfl, rfl, rfl, rfl⟩
theorem RowInTable.ldaIzy (z : Byte) : RowInTable.Statement (.ldaIzy z) :=
  RowInTable.of 0xB1 rfl ⟨rfl, rfl, rfl, rfl, rfl, rfl⟩
theorem RowInTable.ldaZpx (z : Byte) : RowInTable.Statement (.ldaZpx z) :=
  RowInTable.of 0xB5 rfl ⟨rfl, rfl, rfl, rfl, rfl, rfl⟩
theorem RowInTable.ldaAby (a : Addr) : RowInTable.Statement (.ldaAby a) :=
  RowInTable.of 0xB9 rfl ⟨rfl, rfl, rfl, rfl, rfl, rfl⟩
theorem RowInTable.ldaAbx (a : Addr) : RowInTable.Statement (.ldaAbx a) :=
  RowInTable.of 0xBD rfl ⟨rfl, rfl, rfl, rfl, rfl, rfl⟩
theorem RowInTable.ldxImm (v : Byte) : RowInTable.Statement (.ldxImm v) :=
  RowInTable.of 0xA2 rfl ⟨rfl, rfl, rfl, rfl, rfl, rfl⟩
theorem RowInTable.ldxZp0 (z : Byte) : RowInTable.Statement (.ldxZp0 z) :=
  RowInTable.of 0xA6 rfl ⟨rfl, rfl, rfl, rfl, rfl, rfl⟩
theorem RowInTable.ldxAbs (a : Addr) : RowInTable.Statement (.ldxAbs a) :=
  RowInTable.of 0xAE rfl ⟨rfl, rfl, rfl, rfl, rfl, rfl⟩
theorem RowInTable.ldxZpy (z : Byte) : RowInTable.Statement (.ldxZpy z) :=
  RowInTable.of 0xB6 rfl ⟨rfl, rfl, rfl, rfl, rfl, rfl⟩
theorem RowInTable.ldxAby (a : Addr) : RowInTable.Statement (.ldxAby a) :=
  RowInTable.of 0xBE rfl ⟨rfl, rfl, rfl, rfl, rfl, rfl⟩
theorem RowInTable.ldyImm (v : Byte) : RowInTable.Statement (.ldyImm v) :=
  RowInTable.of 0xA0 rfl ⟨rfl, rfl, rfl, rfl, rfl, rfl⟩
theorem RowInTable.ldyZp0 (z : Byte) : RowInTable.Statement (.ldyZp0 z) :=
  RowInTable.of 0xA4 rfl ⟨rfl, rfl, rfl, rfl, rfl, rfl⟩
theorem RowInTable.ldyAbs (a : Addr) : RowInTable.Statement (.ldyAbs a) :=
  RowInTable.of 0xAC rfl ⟨rfl, rfl, rfl, rfl, rfl, rfl⟩
theorem RowInTable.ldyZpx (z : Byte) : RowInTable.Statement (.ldyZpx z) :=
  RowInTable.of 0xB4 rfl ⟨rfl, rfl, rfl, rfl, rfl, rfl⟩
theorem RowInTable.ldyAbx (a : Addr) : RowInTable.Statement (.ldyAbx a) :=
  RowInTable.of 0xBC rfl ⟨rfl, rfl, rfl, rfl, rfl, rfl⟩
theorem RowInTable.staIzx (z : Byte) : RowInTable.Statement (.staIzx z) :=
  RowInTable.of 0x81 rfl ⟨rfl, rfl, rfl, rfl, rfl, rfl⟩
theorem RowInTable.staZp0 (z : Byte) : RowInTable.Statement (.staZp0 z) :=
  RowInTable.of 0x85 rfl ⟨rfl, rfl, rfl, rfl, rfl, rfl⟩
theorem RowInTable.staAbs (a : Addr) : RowInTable.Statement (.staAbs a) :=
  RowInTable.of 0x8D rfl ⟨rfl, rfl, rfl, rfl, rfl, rfl⟩
theorem RowInTable.staIzy (z : Byte) : RowInTable.Statement (.staIzy z) :=
  RowInTable.of 0x91 rfl ⟨rfl, rfl, rfl, rfl, rfl, rfl⟩
theorem RowInTable.staZpx (z : Byte) : RowInTable.Statement (.staZpx z) :=
  RowInTable.of 0x95 rfl ⟨rfl, rfl, rfl, rfl, rfl, rfl⟩
theorem RowInTable.staAby (a : Addr) : RowInTable.Statement (.staAby a) :=
  RowInTable.of 0x99 rfl ⟨rfl, rfl, rfl, rfl, rfl, rfl⟩
theorem RowInTable.staAbx (a : Addr) : RowInTable.Statement (.staAbx a) :=
  RowInTable.of 0x9D rfl ⟨rfl, rfl, rfl, rfl, rfl, rfl⟩
theorem RowInTable.stxZp0 (z : Byte) : RowInTable.Statement (.stxZp0 z) :=
  RowInTable.of 0x86 rfl ⟨rfl, rfl, rfl, rfl, rfl, rfl⟩
theorem RowInTable.stxAbs (a : Addr) : RowInTable.Statement (.stxAbs a) :=
  RowInTable.of 0x8E rfl ⟨rfl, rfl, rfl, rfl, rfl, rfl⟩
theorem RowInTable.stxZpy (z : Byte) : RowInTable.Statement (.stxZpy z) :=
  RowInTable.of 0x96 rfl ⟨rfl, rfl, rfl, rfl, rfl, rfl⟩
theorem RowInTable.styZp0 (z : Byte) : RowInTable.Statement (.styZp0 z) :=
  RowInTable.of 0x84 rfl ⟨rfl, rfl, rfl, rfl, rfl, rfl⟩
theorem RowInTable.styAbs (a : Addr) : RowInTable.Statement (.styAbs a) :=
  RowInTable.of 0x8C rfl ⟨rfl, rfl, rfl, rfl, rfl, rfl⟩
theorem RowInTable.styZpx (z : Byte) : RowInTable.Statement (.styZpx z) :=
  RowInTable.of 0x94 rfl ⟨rfl, rfl, rfl, rfl, rfl, rfl⟩
theorem RowInTable.tax : RowInTable.Statement .tax :=
  RowInTable.of 0xAA rfl ⟨rfl, rfl, rfl, rfl, rfl, rfl⟩
theorem RowInTable.tay : RowInTable.Statement .tay :=
  RowInTable.of 0xA8 rfl ⟨rfl, rfl, rfl, rfl, rfl, rfl⟩
theorem RowInTable.txa : RowInTable.Statement .txa :=
  RowInTable.of 0x8A rfl ⟨rfl, rfl, rfl, rfl, rfl, rfl⟩
theorem RowInTable.tya : RowInTable.Statement .tya :=
  RowInTable.of 0x98 rfl ⟨rfl, rfl, rfl, rfl, rfl, rfl⟩
theorem RowInTable.tsx : RowInTable.Statement .tsx :=
  RowInTable.of 0xBA rfl ⟨rfl, rfl, rfl, rfl, rfl, rfl⟩
theorem RowInTable.txs : RowInTable.Statement .txs :=
  RowInTable.of 0x9A rfl ⟨rfl, rfl, rfl, rfl, rfl, rfl⟩
theorem RowInTable.pha : RowInTable.Statement .pha :=
  RowInTable.of 0x48 rfl ⟨rfl, rfl, rfl, rfl, rfl, rfl⟩
theorem RowInTable.php : RowInTable.Statement .php :=
  RowInTable.of 0x08 rfl ⟨rfl, rfl, rfl, rfl, rfl, rfl⟩
theorem RowInTable.pla : RowInTable.Statement .pla :=
  RowInTable.of 0x68 rfl ⟨rfl, rfl, rfl, rfl, rfl, rfl⟩
theorem RowInTable.plp : RowInTable.Statement .plp :=
  RowInTable.of 0x28 rfl ⟨rfl, rfl, rfl, rfl, rfl, rfl⟩
theorem RowInTable.andIzx (z : Byte) : RowInTable.Statement (.andIzx z) :=
  RowInTable.of 0x21 rfl ⟨rfl, rfl, rfl, rfl, rfl, rfl⟩
theorem RowInTable.andZp0 (z : Byte) : RowInTable.Statement (.andZp0 z) :=
  RowInTable.of 0x25 rfl ⟨rfl, rfl, rfl, rfl, rfl, rfl⟩
theorem RowInTable.andImm (v : Byte) : RowInTable.Statement (.andImm v) :=
  RowInTable.of 0x29 rfl ⟨rfl, rfl, rfl, rfl, rfl, rfl⟩
theorem RowInTable.andAbs (a : Addr) : RowInTable.Statement (.andAbs a) :=
  RowInTable.of 0x2D rfl ⟨rfl, rfl, rfl, rfl, rfl, rfl⟩
theorem RowInTable.andIzy (z : Byte) : RowInTable.Statement (.andIzy z) :=
  RowInTable.of 0x31 rfl ⟨rfl, rfl, rfl, rfl, rfl, rfl⟩
theorem RowInTable.andZpx (z : Byte) : RowInTable.Statement (.andZpx z) :=
  RowInTable.of 0x35 rfl ⟨rfl, rfl, rfl, rfl, rfl, rfl⟩
theorem RowInTable.andAby (a : Addr) : RowInTable.Statement (.andAby a) :=
  RowInTable.of 0x39 rfl ⟨rfl, rfl, rfl, rfl, rfl, rfl⟩
theorem RowInTable.andAbx (a : Addr) : RowInTable.Statement (.andAbx a) :=
  RowInTable.of 0x3D rfl ⟨rfl, rfl, rfl, rfl, rfl, rfl⟩
theorem RowInTable.oraIzx (z : Byte) : RowInTable.Statement (.oraIzx z) :=
  RowInTable.of 0x01 rfl ⟨rfl, rfl, rfl, rfl, rfl, rfl⟩
theorem RowInTable.oraZp0 (z : Byte) : RowInTable.Statement (.oraZp0 z) :=
  RowInTable.of 0x05 rfl ⟨rfl, rfl, rfl, rfl, rfl, rfl⟩
theorem RowInTable.oraImm (v : Byte) : RowInTable.Statement (.oraImm v) :=
  RowInTable.of 0x09 rfl ⟨rfl, rfl, rfl, rfl, rfl, rfl⟩
theorem RowInTable.oraAbs (a : Addr) : RowInTable.Statement (.oraAbs a) :=
  RowInTable.of 0x0D rfl ⟨rfl, rfl, rfl, rfl, rfl, rfl⟩
theorem RowInTable.oraIzy (z : Byte) : RowInTable.Statement (.oraIzy z) :=
  RowInTable.of 0x11 rfl ⟨rfl, rfl, rfl, rfl, rfl, rfl⟩
theorem RowInTable.oraZpx (z : Byte) : RowInTable.Statement (.oraZpx z) :=
  RowInTable.of 0x15 rfl ⟨rfl, rfl, rfl, rfl, rfl, rfl⟩
theorem RowInTable.oraAby (a : Addr) : RowInTable.Statement (.oraAby a) :=
  RowInTable.of 0x19 rfl ⟨rfl, rfl, rfl, rfl, rfl, rfl⟩
theorem RowInTable.oraAbx (a : Addr) : RowInTable.Statement (.oraAbx a) :=
  RowInTable.of 0x1D rfl ⟨rfl, rfl, rfl, rfl, rfl, rfl⟩
theorem RowInTable.eorIzx (z : Byte) : RowInTable.Statement (.eorIzx z) :=
  RowInTable.of 0x41 rfl ⟨rfl, rfl, rfl, rfl, rfl, rfl⟩
theorem RowInTable.eorZp0 (z : Byte) : RowInTable.Statement (.eorZp0 z) :=
  RowInTable.of 0x45 rfl ⟨rfl, rfl, rfl, rfl, rfl, rfl⟩
theorem RowInTable.eorImm (v : Byte) : RowInTable.Statement (.eorImm v) :=
  RowInTable.of 0x49 rfl ⟨rfl, rfl, rfl, rfl, rfl, rfl⟩
theorem RowInTable.eorAbs (a : Addr) : RowInTable.Statement (.eorAbs a) :=
  RowInTable.of 0x4D rfl ⟨rfl, rfl, rfl, rfl, rfl, rfl⟩
theorem RowInTable.eorIzy (z : Byte) : RowInTable.Statement (.eorIzy z) :=
  RowInTable.of 0x51 rfl ⟨rfl, rfl, rfl, rfl, rfl, rfl⟩
theorem RowInTable.eorZpx (z : Byte) : RowInTable.Statement (.eorZpx z) :=
  RowInTable.of 0x55 rfl ⟨rfl, rfl, rfl, rfl, rfl, rfl⟩
theorem RowInTable.eorAby (a : Addr) : RowInTable.Statement (.eorAby a) :=
  RowInTable.of 0x59 rfl ⟨rfl, rfl, rfl, rfl, rfl, rfl⟩
theorem RowInTable.eorAbx (a : Addr) : RowInTable.Statement (.eorAbx a) :=
  RowInTable.of 0x5D rfl ⟨rfl, rfl, rfl, rfl, rfl, rfl⟩
theorem RowInTable.bitZp0 (z : Byte) : RowInTable.Statement (.bitZp0 z) :=
  RowInTable.of 0x24 rfl ⟨rfl, rfl, rfl, rfl, rfl, rfl⟩
theorem RowInTable.bitAbs (a : Addr) : RowInTable.Statement (.bitAbs a) :=
  RowInTable.of 0x2C rfl ⟨rfl, rfl, rfl, rfl, rfl, rfl⟩
theorem RowInTable.adcIzx (z : Byte) : RowInTable.Statement (.adcIzx z) :=
  RowInTable.of 0x61 rfl ⟨rfl, rfl, rfl, rfl, rfl, rfl⟩
theorem RowInTable.adcZp0 (z : Byte) : RowInTable.Statement (.adcZp0 z) :=
  RowInTable.of 0x65 rfl ⟨rfl, rfl, rfl, rfl, rfl, rfl⟩
theorem RowInTable.adcImm (v : Byte) : RowInTable.Statement (.adcImm v) :=
  RowInTable.of 0x69 rfl ⟨rfl, rfl, rfl, rfl, rfl, rfl⟩
theorem RowInTable.adcAbs (a : Addr) : RowInTable.Statement (.adcAbs a) :=
  RowInTable.of 0x6D rfl ⟨rfl, rfl, rfl, rfl, rfl, rfl⟩
theorem RowInTable.adcIzy (z : Byte) : RowInTable.Statement (.adcIzy z) :=
  RowInTable.of 0x71 rfl ⟨rfl, rfl, rfl, rfl, rfl, rfl⟩
theorem RowInTable.adcZpx (z : Byte) : RowInTable.Statement (.adcZpx z) :=
  RowInTable.of 0x75 rfl ⟨rfl, rfl, rfl, rfl, rfl, rfl⟩
theorem RowInTable.adcAby (a : Addr) : RowInTable.Statement (.adcAby a) :=
  RowInTable.of 0x79 rfl ⟨rfl, rfl, rfl, rfl, rfl, rfl⟩
theorem RowInTable.adcAbx (a : Addr) : RowInTable.Statement (.adcAbx a) :=
  RowInTable.of 0x7D rfl ⟨rfl, rfl, rfl, rfl, rfl, rfl⟩
theorem RowInTable.sbcIzx (z : Byte) : RowInTable.Statement (.sbcIzx z) :=
  RowInTable.of 0xE1 rfl ⟨rfl, rfl, rfl, rfl, rfl, rfl⟩
theorem RowInTable.sbcZp0 (z : Byte) : RowInTable.Statement (.sbcZp0 z) :=
  RowInTable.of 0xE5 rfl ⟨rfl, rfl, rfl, rfl, rfl, rfl⟩
theorem RowInTable.sbcImm (v : Byte) : RowInTable.Statement (.sbcImm v) :=
  RowInTable.of 0xE9 rfl ⟨rfl, rfl, rfl, rfl, rfl, rfl⟩
theorem RowInTable.sbcAbs (a : Addr) : RowInTable.Statement (.sbcAbs a) :=
  RowInTable.of 0xED rfl ⟨rfl, rfl, rfl, rfl, rfl, rfl⟩
theorem RowInTable.sbcIzy (z : Byte) : RowInTable.Statement (.sbcIzy z) :=
  RowInTable.of 0xF1 rfl ⟨rfl, rfl, rfl, rfl, rfl, rfl⟩
theorem RowInTable.sbcZpx (z : Byte) : RowInTable.Statement (.sbcZpx z) :=
  RowInTable.of 0xF5 rfl ⟨rfl, rfl, rfl, rfl, rfl, rfl⟩
theorem RowInTable.sbcAby (a : Addr) : RowInTable.Statement (.sbcAby a) :=
  RowInTable.of 0xF9 rfl ⟨rfl, rfl, rfl, rfl, rfl, rfl⟩
theorem RowInTable.sbcAbx (a : Addr) : RowInTable.Statement (.sbcAbx a) :=
  RowInTable.of 0xFD rfl ⟨rfl, rfl, rfl, rfl, rfl, rfl⟩
theorem RowInTable.cmpIzx (z : Byte) : RowInTable.Statement (.cmpIzx z) :=
  RowInTable.of 0xC1 rfl ⟨rfl, rfl, rfl, rfl, rfl, rfl⟩
theorem RowInTable.cmpZp0 (z : Byte) : RowInTable.Statement (.cmpZp0 z) :=
  RowInTable.of 0xC5 rfl ⟨rfl, rfl, rfl, rfl, rfl, rfl⟩
theorem RowInTable.cmpImm (v : Byte) : RowInTable.Statement (.cmpImm v) :=
  RowInTable.of 0xC9 rfl ⟨rfl, rfl, rfl, rfl, rfl, rfl⟩
theorem RowInTable.cmpAbs (a : Addr) : RowInTable.Statement (.cmpAbs a) :=
  RowInTable.of 0xCD rfl ⟨rfl, rfl, rfl, rfl, rfl, rfl⟩
theorem RowInTable.cmpIzy (z : Byte) : RowInTable.Statement (.cmpIzy z) :=
  RowInTable.of 0xD1 rfl ⟨rfl, rfl, rfl, rfl, rfl, rfl⟩
theorem RowInTable.cmpZpx (z : Byte) : RowInTable.Statement (.cmpZpx z) :=
  RowInTable.of 0xD5 rfl ⟨rfl, rfl, rfl, rfl, rfl, rfl⟩
theorem RowInTable.cmpAby (a : Addr) : RowInTable.Statement (.cmpAby a) :=
  RowInTable.of 0xD9 rfl ⟨rfl, rfl, rfl, rfl, rfl, rfl⟩
theorem RowInTable.cmpAbx (a : Addr) : RowInTable.Statement (.cmpAbx a) :=
  RowInTable.of 0xDD rfl ⟨rfl, rfl, rfl, rfl, rfl, rfl⟩
theorem RowInTable.cpxImm (v : Byte) : RowInTable.Statement (.cpxImm v) :=
  RowInTable.of 0xE0 rfl ⟨rfl, rfl, rfl, rfl, rfl, rfl⟩
theorem RowInTable.cpxZp0 (z : Byte) : RowInTable.Statement (.cpxZp0 z) :=
  RowInTable.of 0xE4 rfl ⟨rfl, rfl, rfl, rfl, rfl, rfl⟩
theorem RowInTable.cpxAbs (a : Addr) : RowInTable.Statement (.cpxAbs a) :=
  RowInTable.of 0xEC rfl ⟨rfl, rfl, rfl, rfl, rfl, rfl⟩
theorem RowInTable.cpyImm (v : Byte) : RowInTable.Statement (.cpyImm v) :=
  RowInTable.of 0xC0 rfl ⟨rfl, rfl, rfl, rfl, rfl, rfl⟩
theorem RowInTable.cpyZp0 (z : Byte) : RowInTable.Statement (.cpyZp0 z) :=
  RowInTable.of 0xC4 rfl ⟨rfl, rfl, rfl, rfl, rfl, rfl⟩
theorem RowInTable.cpyAbs (a : Addr) : RowInTable.Statement (.cpyAbs a) :=
  RowInTable.of 0xCC rfl ⟨rfl, rfl, rfl, rfl, rfl, rfl⟩
theorem RowInTable.incZp0 (z : Byte) : RowInTable.Statement (.incZp0 z) :=
  RowInTable.of 0xE6 rfl ⟨rfl, rfl, rfl, rfl, rfl, rfl⟩
theorem RowInTable.incAbs (a : Addr) : RowInTable.Statement (.incAbs a) :=
  RowInTable.of 0xEE rfl ⟨rfl, rfl, rfl, rfl, rfl, rfl⟩
theorem RowInTable.incZpx (z : Byte) : RowInTable.Statement (.incZpx z) :=
  RowInTable.of 0xF6 rfl ⟨rfl, rfl, rfl, rfl, rfl, rfl⟩
theorem RowInTable.incAbx (a : Addr) : RowInTable.Statement (.incAbx a) :=
  RowInTable.of 0xFE rfl ⟨rfl, rfl, rfl, rfl, rfl, rfl⟩
theorem RowInTable.decZp0 (z : Byte) : RowInTable.Statement (.decZp0 z) :=
  RowInTable.of 0xC6 rfl ⟨rfl, rfl, rfl, rfl, rfl, rfl⟩
theorem RowInTable.decAbs (a : Addr) : RowInTable.Statement (.decAbs a) :=
  RowInTable.of 0xCE rfl ⟨rfl, rfl, rfl, rfl, rfl, rfl⟩
theorem RowInTable.decZpx (z : Byte) : RowInTable.Statement (.decZpx z) :=
  RowInTable.of 0xD6 rfl ⟨rfl, rfl, rfl, rfl, rfl, rfl⟩
theorem RowInTable.decAbx (a : Addr) : RowInTable.Statement (.decAbx a) :=
  RowInTable.of 0xDE rfl ⟨rfl, rfl, rfl, rfl, rfl, rfl⟩
theorem RowInTable.inx : RowInTable.Statement .inx :=
  RowInTable.of 0xE8 rfl ⟨rfl, rfl, rfl, rfl, rfl, rfl⟩
theorem RowInTable.iny : RowInTable.Statement .iny :=
  RowInTable.of 0xC8 rfl ⟨rfl, rfl, rfl, rfl, rfl, rfl⟩
theorem RowInTable.dex : RowInTable.Statement .dex :=
  RowInTable.of 0xCA rfl ⟨rfl, rfl, rfl, rfl, rfl, rfl⟩
theorem RowInTable.dey : RowInTable.Statement .dey :=
  RowInTable.of 0x88 rfl ⟨rfl, rfl, rfl, rfl, rfl, rfl⟩
theorem RowInTable.aslZp0 (z : Byte) : RowInTable.Statement (.aslZp0 z) :=
  RowInTable.of 0x06 rfl ⟨rfl, rfl, rfl, rfl, rfl, rfl⟩
theorem RowInTable.aslAcc : RowInTable.Statement .aslAcc :=
  RowInTable.of 0x0A rfl ⟨rfl, rfl, rfl, rfl, rfl, rfl⟩
theorem RowInTable.aslAbs (a : Addr) : RowInTable.Statement (.aslAbs a) :=
  RowInTable.of 0x0E rfl ⟨rfl, rfl, rfl, rfl, rfl, rfl⟩
theorem RowInTable.aslZpx (z : Byte) : RowInTable.Statement (.aslZpx z) :=
  RowInTable.of 0x16 rfl ⟨rfl, rfl, rfl, rfl, rfl, rfl⟩
theorem RowInTable.aslAbx (a : Addr) : RowInTable.Statement (.aslAbx a) :=
  RowInTable.of 0x1E rfl ⟨rfl, rfl, rfl, rfl, rfl, rfl⟩
theorem RowInTable.lsrZp0 (z : Byte) : RowInTable.Statement (.lsrZp0 z) :=
  RowInTable.of 0x46 rfl ⟨rfl, rfl, rfl, rfl, rfl, rfl⟩
theorem RowInTable.lsrAcc : RowInTable.Statement .lsrAcc :=
  RowInTable.of 0x4A rfl ⟨rfl, rfl, rfl, rfl, rfl, rfl⟩
theorem RowInTable.lsrAbs (a : Addr) : RowInTable.Statement (.lsrAbs a) :=
  RowInTable.of 0x4E rfl ⟨rfl, rfl, rfl, rfl, rfl, rfl⟩
theorem RowInTable.lsrZpx (z : Byte) : RowInTable.Statement (.lsrZpx z) :=
  RowInTable.of 0x56 rfl ⟨rfl, rfl, rfl, rfl, rfl, rfl⟩
theorem RowInTable.lsrAbx (a : Addr) : RowInTable.Statement (.lsrAbx a) :=
  RowInTable.of 0x5E rfl ⟨rfl, rfl, rfl, rfl, rfl, rfl⟩
theorem RowInTable.rolZp0 (z : Byte) : RowInTable.Statement (.rolZp0 z) :=
  RowInTable.of 0x26 rfl ⟨rfl, rfl, rfl, rfl, rfl, rfl⟩
theorem RowInTable.rolAcc : RowInTable.Statement .rolAcc :=
  RowInTable.of 0x2A rfl ⟨rfl, rfl, rfl, rfl, rfl, rfl⟩
theorem RowInTable.rolAbs (a : Addr) : RowInTable.Statement (.rolAbs a) :=
  RowInTable.of 0x2E rfl ⟨rfl, rfl, rfl, rfl, rfl, rfl⟩
theorem RowInTable.rolZpx (z : Byte) : RowInTable.Statement (.rolZpx z) :=
  RowInTable.of 0x36 rfl ⟨rfl, rfl, rfl, rfl, rfl, rfl⟩
theorem RowInTable.rolAbx (a : Addr) : RowInTable.Statement (.rolAbx a) :=
  RowInTable.of 0x3E rfl ⟨rfl, rfl, rfl, rfl, rfl, rfl⟩
theorem RowInTable.rorZp0 (z : Byte) : RowInTable.Statement (.rorZp0 z) :=
  RowInTable.of 0x66 rfl ⟨rfl, rfl, rfl, rfl, rfl, rfl⟩
theorem RowInTable.rorAcc : RowInTable.Statement .rorAcc :=
  RowInTable.of 0x6A rfl ⟨rfl, rfl, rfl, rfl, rfl, rfl⟩
theorem RowInTable.rorAbs (a : Addr) : RowInTable.Statement (.rorAbs a) :=
  RowInTable.of 0x6E rfl ⟨rfl, rfl, rfl, rfl, rfl, rfl⟩
theorem RowInTable.rorZpx (z : Byte) : RowInTable.Statement (.rorZpx z) :=
  RowInTable.of 0x76 rfl ⟨rfl, rfl, rfl, rfl, rfl, rfl⟩
theorem RowInTable.rorAbx (a : Addr) : RowInTable.Statement (.rorAbx a) :=
  RowInTable.of 0x7E rfl ⟨rfl, rfl, rfl, rfl, rfl, rfl⟩
theorem RowInTable.jmpAbs (a : Addr) : RowInTable.Statement (.jmpAbs a) :=
  RowInTable.of 0x4C rfl ⟨rfl, rfl, rfl, rfl, rfl, rfl⟩
theorem RowInTable.jmpInd (p : Addr) : RowInTable.Statement (.jmpInd p) :=
  RowInTable.of 0x6C rfl ⟨rfl, rfl, rfl, rfl, rfl, rfl⟩
theorem RowInTable.jsrAbs (a : Addr) : RowInTable.Statement (.jsrAbs a) :=
  RowInTable.of 0x20 rfl ⟨rfl, rfl, rfl, rfl, rfl, rfl⟩
theorem RowInTable.rts : RowInTable.Statement .rts :=
  RowInTable.of 0x60 rfl ⟨rfl, rfl, rfl, rfl, rfl, rfl⟩
theorem RowInTable.bcc (r : Byte) : RowInTable.Statement (.bcc r) :=
  RowInTable.of 0x90 rfl ⟨rfl, rfl, rfl, rfl, rfl, rfl⟩
theorem RowInTable.bcs (r : Byte) : RowInTable.Statement (.bcs r) :=
  RowInTable.of 0xB0 rfl ⟨rfl, rfl, rfl, rfl, rfl, rfl⟩
theorem RowInTable.beq (r : Byte) : RowInTable.Statement (.beq r) :=
  RowInTable.of 0xF0 rfl ⟨rfl, rfl, rfl, rfl, rfl, rfl⟩
theorem RowInTable.bne (r : Byte) : RowInTable.Statement (.bne r) :=
  RowInTable.of 0xD0 rfl ⟨rfl, rfl, rfl, rfl, rfl, rfl⟩
theorem RowInTable.bmi (r : Byte) : RowInTable.Statement (.bmi r) :=
  RowInTable.of 0x30 rfl ⟨rfl, rfl, rfl, rfl, rfl, rfl⟩
theorem RowInTable.bpl (r : Byte) : RowInTable.Statement (.bpl r) :=
  RowInTable.of 0x10 rfl ⟨rfl, rfl, rfl, rfl, rfl, rfl⟩
theorem RowInTable.bvc (r : Byte) : RowInTable.Statement (.bvc r) :=
  RowInTable.of 0x50 rfl ⟨rfl, rfl, rfl, rfl, rfl, rfl⟩
theorem RowInTable.bvs (r : Byte) : RowInTable.Statement (.bvs r) :=
  RowInTable.of 0x70 rfl ⟨rfl, rfl, rfl, rfl, rfl, rfl⟩
theorem RowInTable.clc : RowInTable.Statement .clc :=
  RowInTable.of 0x18 rfl ⟨rfl, rfl, rfl, rfl, rfl, rfl⟩
theorem RowInTable.sec : RowInTable.Statement .sec :=
  RowInTable.of 0x38 rfl ⟨rfl, rfl, rfl, rfl, rfl, rfl⟩
theorem RowInTable.cli : RowInTable.Statement .cli :=
  RowInTable.of 0x58 rfl ⟨rfl, rfl, rfl, rfl, rfl, rfl⟩
theorem RowInTable.sei : RowInTable.Statement .sei :=
  RowInTable.of 0x78 rfl ⟨rfl, rfl, rfl, rfl, rfl, rfl⟩
theorem RowInTable.cld : RowInTable.Statement .cld :=
  RowInTable.of 0xD8 rfl ⟨rfl, rfl, rfl, rfl, rfl, rfl⟩
theorem RowInTable.sed : RowInTable.Statement .sed :=
  RowInTable.of 0xF8 rfl ⟨rfl, rfl, rfl, rfl, rfl, rfl⟩
theorem RowInTable.clv : RowInTable.Statement .clv :=
  RowInTable.of 0xB8 rfl ⟨rfl, rfl, rfl, rfl, rfl, rfl⟩
theorem RowInTable.nop : RowInTable.Statement .nop :=
  RowInTable.of 0xEA rfl ⟨rfl, rfl, rfl, rfl, rfl, rfl⟩
theorem RowInTable.brk : RowInTable.Statement .brk :=
  RowInTable.of 0x00 rfl ⟨rfl, rfl, rfl, rfl, rfl, rfl⟩
theorem RowInTable.rti : RowInTable.Statement .rti :=
  RowInTable.of 0x40 rfl ⟨rfl, rfl, rfl, rfl, rfl, rfl⟩
theorem RowInTable.ill02 : RowInTable.Statement .ill02 :=
  RowInTable.of 0x02 rfl ⟨rfl, rfl, rfl, rfl, rfl, rfl⟩
theorem RowInTable.ill03 : RowInTable.Statement .ill03 :=
  RowInTable.of 0x03 rfl ⟨rfl, rfl, rfl, rfl, rfl, rfl⟩
theorem RowInTable.ill04 : RowInTable.Statement .ill04 :=
  RowInTable.of 0x04 rfl ⟨rfl, rfl, rfl, rfl, rfl, rfl⟩
theorem RowInTable.ill07 : RowInTable.Statement .ill07 :=
  RowInTable.of 0x07 rfl ⟨rfl, rfl, rfl, rfl, rfl, rfl⟩
theorem RowInTable.ill0B : RowInTable.Statement .ill0B :=
  RowInTable.of 0x0B rfl ⟨rfl, rfl, rfl, rfl, rfl, rfl⟩
theorem RowInTable.ill0C : RowInTable.Statement .ill0C :=
  RowInTable.of 0x0C rfl ⟨rfl, rfl, rfl, rfl, rfl, rfl⟩
theorem RowInTable.ill0F : RowInTable.Statement .ill0F :=
  RowInTable.of 0x0F rfl ⟨rfl, rfl, rfl, rfl, rfl, rfl⟩
theorem RowInTable.ill12 : RowInTable.Statement .ill12 :=
  RowInTable.of 0x12 rfl ⟨rfl, rfl, rfl, rfl, rfl, rfl⟩
theorem RowInTable.ill13 : RowInTable.Statement .ill13 :=
  RowInTable.of 0x13 rfl ⟨rfl, rfl, rfl, rfl, rfl, rfl⟩
theorem RowInTable.ill14 : RowInTable.Statement .ill14 :=
  RowInTable.of 0x14 rfl ⟨rfl, rfl, rfl, rfl, rfl, rfl⟩
theorem RowInTable.ill17 : RowInTable.Statement .ill17 :=
  RowInTable.of 0x17 rfl ⟨rfl, rfl, rfl, rfl, rfl, rfl⟩
theorem RowInTable.ill1A : RowInTable.Statement .ill1A :=
  RowInTable.of 0x1A rfl ⟨rfl, rfl, rfl, rfl, rfl, rfl⟩
theorem RowInTable.ill1B : RowInTable.Statement .ill1B :=
  RowInTable.of 0x1B rfl ⟨rfl, rfl, rfl, rfl, rfl, rfl⟩
theorem RowInTable.ill1C : RowInTable.Statement .ill1C :=
  RowInTable.of 0x1C rfl ⟨rfl, rfl, rfl, rfl, rfl, rfl⟩
theorem RowInTable.ill1F : RowInTable.Statement .ill1F :=
  RowInTable.of 0x1F rfl ⟨rfl, rfl, rfl, rfl, rfl, rfl⟩
theorem RowInTable.ill22 : RowInTable.Statement .ill22 :=
  RowInTable.of 0x22 rfl ⟨rfl, rfl, rfl, rfl, rfl, rfl⟩
theorem RowInTable.ill23 : RowInTable.Statement .ill23 :=
  RowInTable.of 0x23 rfl ⟨rfl, rfl, rfl, rfl, rfl, rfl⟩
theorem RowInTable.ill27 : RowInTable.Statement .ill27 :=
  RowInTable.of 0x27 rfl ⟨rfl, rfl, rfl, rfl, rfl, rfl⟩
theorem RowInTable.ill2B : RowInTable.Statement .ill2B :=
  RowInTable.of 0x2B rfl ⟨rfl, rfl, rfl, rfl, rfl, rfl⟩
theorem RowInTable.ill2F : RowInTable.Statement .ill2F :=
  RowInTable.of 0x2F rfl ⟨rfl, rfl, rfl, rfl, rfl, rfl⟩
theorem RowInTable.ill32 : RowInTable.Statement .ill32 :=
  RowInTable.of 0x32 rfl ⟨rfl, rfl, rfl, rfl, rfl, rfl⟩
theorem RowInTable.ill33 : RowInTable.Statement .ill33 :=
  RowInTable.of 0x33 rfl ⟨rfl, rfl, rfl, rfl, rfl, rfl⟩
theorem RowInTable.ill34 : RowInTable.Statement .ill34 :=
  RowInTable.of 0x34 rfl ⟨rfl, rfl, rfl, rfl, rfl, rfl⟩
theorem RowInTable.ill37 : RowInTable.Statement .ill37 :=
  RowInTable.of 0x37 rfl ⟨rfl, rfl, rfl, rfl, rfl, rfl⟩
theorem RowInTable.ill3A : RowInTable.Statement .ill3A :=
  RowInTable.of 0x3A rfl ⟨rfl, rfl, rfl, rfl, rfl, rfl⟩
theorem RowInTable.ill3B : RowInTable.Statement .ill3B :=
  RowInTable.of 0x3B rfl ⟨rfl, rfl, rfl, rfl, rfl, rfl⟩
theorem RowInTable.ill3C : RowInTable.Statement .ill3C :=
  RowInTable.of 0x3C rfl ⟨rfl, rfl, rfl, rfl, rfl, rfl⟩
theorem RowInTable.ill3F : RowInTable.Statement .ill3F :=
  RowInTable.of 0x3F rfl ⟨rfl, rfl, rfl, rfl, rfl, rfl⟩
theorem RowInTable.ill42 : RowInTable.Statement .ill42 :=
  RowInTable.of 0x42 rfl ⟨rfl, rfl, rfl, rfl, rfl, rfl⟩
theorem RowInTable.ill43 : RowInTable.Statement .ill43 :=
  RowInTable.of 0x43 rfl ⟨rfl, rfl, rfl, rfl, rfl, rfl⟩
theorem RowInTable.ill44 : RowInTable.Statement .ill44 :=
  RowInTable.of 0x44 rfl ⟨rfl, rfl, rfl, rfl, rfl, rfl⟩
theorem RowInTable.ill47 : RowInTable.Statement .ill47 :=
  RowInTable.of 0x47 rfl ⟨rfl, rfl, rfl, rfl, rfl, rfl⟩
theorem RowInTable.ill4B : RowInTable.Statement .ill4B :=
  RowInTable.of 0x4B rfl ⟨rfl, rfl, rfl, rfl, rfl, rfl⟩
theorem RowInTable.ill4F : RowInTable.Statement .ill4F :=
  RowInTable.of 0x4F rfl ⟨rfl, rfl, rfl, rfl, rfl, rfl⟩
theorem RowInTable.ill52 : RowInTable.Statement .ill52 :=
  RowInTable.of 0x52 rfl ⟨rfl, rfl, rfl, rfl, rfl, rfl⟩
theorem RowInTable.ill53 : RowInTable.Statement .ill53 :=
  RowInTable.of 0x53 rfl ⟨rfl, rfl, rfl, rfl, rfl, rfl⟩
theorem RowInTable.ill54 : RowInTable.Statement .ill54 :=
  RowInTable.of 0x54 rfl ⟨rfl, rfl, rfl, rfl, rfl, rfl⟩
theorem RowInTable.ill57 : RowInTable.Statement .ill57 :=
  RowInTable.of 0x57 rfl ⟨rfl, rfl, rfl, rfl, rfl, rfl⟩
theorem RowInTable.ill5A : RowInTable.Statement .ill5A :=
  RowInTable.of 0x5A rfl ⟨rfl, rfl, rfl, rfl, rfl, rfl⟩
theorem RowInTable.ill5B : RowInTable.Statement .ill5B :=
  RowInTable.of 0x5B rfl ⟨rfl, rfl, rfl, rfl, rfl, rfl⟩
theorem RowInTable.ill5C : RowInTable.Statement .ill5C :=
  RowInTable.of 0x5C rfl ⟨rfl, rfl, rfl, rfl, rfl, rfl⟩
theorem RowInTable.ill5F : RowInTable.Statement .ill5F :=
  RowInTable.of 0x5F rfl ⟨rfl, rfl, rfl, rfl, rfl, rfl⟩
theorem RowInTable.ill62 : RowInTable.Statement .ill62 :=
  RowInTable.of 0x62 rfl ⟨rfl, rfl, rfl, rfl, rfl, rfl⟩
theorem RowInTable.ill63 : RowInTable.Statement .ill63 :=
  RowInTable.of 0x63 rfl ⟨rfl, rfl, rfl, rfl, rfl, rfl⟩
theorem RowInTable.ill64 : RowInTable.Statement .ill64 :=
  RowInTable.of 0x64 rfl ⟨rfl, rfl, rfl, rfl, rfl, rfl⟩
theorem RowInTable.ill67 : RowInTable.Statement .ill67 :=
  RowInTable.of 0x67 rfl ⟨rfl, rfl, rfl, rfl, rfl, rfl⟩
theorem RowInTable.ill6B : RowInTable.Statement .ill6B :=
  RowInTable.of 0x6B rfl ⟨rfl, rfl, rfl, rfl, rfl, rfl⟩
theorem RowInTable.ill6F : RowInTable.Statement .ill6F :=
  RowInTable.of 0x6F rfl ⟨rfl, rfl, rfl, rfl, rfl, rfl⟩
theorem RowInTable.ill72 : RowInTable.Statement .ill72 :=
  RowInTable.of 0x72 rfl ⟨rfl, rfl, rfl, rfl, rfl, rfl⟩
theorem RowInTable.ill73 : RowInTable.Statement .ill73 :=
  RowInTable.of 0x73 rfl ⟨rfl, rfl, rfl, rfl, rfl, rfl⟩
theorem RowInTable.ill74 : RowInTable.Statement .ill74 :=
  RowInTable.of 0x74 rfl ⟨rfl, rfl, rfl, rfl, rfl, rfl⟩
theorem RowInTable.ill77 : RowInTable.Statement .ill77 :=
  RowInTable.of 0x77 rfl ⟨rfl, rfl, rfl, rfl, rfl, rfl⟩
theorem RowInTable.ill7A : RowInTable.Statement .ill7A :=
  RowInTable.of 0x7A rfl ⟨rfl, rfl, rfl, rfl, rfl, rfl⟩
theorem RowInTable.ill7B : RowInTable.Statement .ill7B :=
  RowInTable.of 0x7B rfl ⟨rfl, rfl, rfl, rfl, rfl, rfl⟩
theorem RowInTable.ill7C : RowInTable.Statement .ill7C :=
  RowInTable.of 0x7C rfl ⟨rfl, rfl, rfl, rfl, rfl, rfl⟩
theorem RowInTable.ill7F : RowInTable.Statement .ill7F :=
  RowInTable.of 0x7F rfl ⟨rfl, rfl, rfl, rfl, rfl, rfl⟩
theorem RowInTable.ill80 : RowInTable.Statement .ill80 :=
  RowInTable.of 0x80 rfl ⟨rfl, rfl, rfl, rfl, rfl, rfl⟩
theorem RowInTable.ill82 : RowInTable.Statement .ill82 :=
  RowInTable.of 0x82 rfl ⟨rfl, rfl, rfl, rfl, rfl, rfl⟩
theorem RowInTable.ill83 : RowInTable.Statement .ill83 :=
  RowInTable.of 0x83 rfl ⟨rfl, rfl, rfl, rfl, rfl, rfl⟩
theorem RowInTable.ill87 : RowInTable.Statement .ill87 :=
  RowInTable.of 0x87 rfl ⟨rfl, rfl, rfl, rfl, rfl, rfl⟩
theorem RowInTable.ill89 : RowInTable.Statement .ill89 :=
  RowInTable.of 0x89 rfl ⟨rfl, rfl, rfl, rfl, rfl, rfl⟩
theorem RowInTable.ill8B : RowInTable.Statement .ill8B :=
  RowInTable.of 0x8B rfl ⟨rfl, rfl, rfl, rfl, rfl, rfl⟩
theorem RowInTable.ill8F : RowInTable.Statement .ill8F :=
  RowInTable.of 0x8F rfl ⟨rfl, rfl, rfl, rfl, rfl, rfl⟩
theorem RowInTable.ill92 : RowInTable.Statement .ill92 :=
  RowInTable.of 0x92 rfl ⟨rfl, rfl, rfl, rfl, rfl, rfl⟩
theorem RowInTable.ill93 : RowInTable.Statement .ill93 :=
  RowInTable.of 0x93 rfl ⟨rfl, rfl, rfl, rfl, rfl, rfl⟩
theorem RowInTable.ill97 : RowInTable.Statement .ill97 :=
  RowInTable.of 0x97 rfl ⟨rfl, rfl, rfl, rfl, rfl, rfl⟩
theorem RowInTable.ill9B : RowInTable.Statement .ill9B :=
  RowInTable.of 0x9B rfl ⟨rfl, rfl, rfl, rfl, rfl, rfl⟩
theorem RowInTable.ill9C : RowInTable.Statement .ill9C :=
  RowInTable.of 0x9C rfl ⟨rfl, rfl, rfl, rfl, rfl, rfl⟩
theorem RowInTable.ill9E : RowInTable.Statement .ill9E :=
  RowInTable.of 0x9E rfl ⟨rfl, rfl, rfl, rfl, rfl, rfl⟩
theorem RowInTable.ill9F : RowInTable.Statement .ill9F :=
  RowInTable.of 0x9F rfl ⟨rfl, rfl, rfl, rfl, rfl, rfl⟩
theorem RowInTable.illA3 : RowInTable.Statement .illA3 :=
  RowInTable.of 0xA3 rfl ⟨rfl, rfl, rfl, rfl, rfl, rfl⟩
theorem RowInTable.illA7 : RowInTable.Statement .illA7 :=
  RowInTable.of 0xA7 rfl ⟨rfl, rfl, rfl, rfl, rfl, rfl⟩
theorem RowInTable.illAB : RowInTable.Statement .illAB :=
  RowInTable.of 0xAB rfl ⟨rfl, rfl, rfl, rfl, rfl, rfl⟩
theorem RowInTable.illAF : RowInTable.Statement .illAF :=
  RowInTable.of 0xAF rfl ⟨rfl, rfl, rfl, rfl, rfl, rfl⟩
theorem RowInTable.illB2 : RowInTable.Statement .illB2 :=
  RowInTable.of 0xB2 rfl ⟨rfl, rfl, rfl, rfl, rfl, rfl⟩
theorem RowInTable.illB3 : RowInTable.Statement .illB3 :=
  RowInTable.of 0xB3 rfl ⟨rfl, rfl, rfl, rfl, rfl, rfl⟩
theorem RowInTable.illB7 : RowInTable.Statement .illB7 :=
  RowInTable.of 0xB7 rfl ⟨rfl, rfl, rfl, rfl, rfl, rfl⟩
theorem RowInTable.illBB : RowInTable.Statement .illBB :=
  RowInTable.of 0xBB rfl ⟨rfl, rfl, rfl, rfl, rfl, rfl⟩
theorem RowInTable.illBF : RowInTable.Statement .illBF :=
  RowInTable.of 0xBF rfl ⟨rfl, rfl, rfl, rfl, rfl, rfl⟩
theorem RowInTable.illC2 : RowInTable.Statement .illC2 :=
  RowInTable.of 0xC2 rfl ⟨rfl, rfl, rfl, rfl, rfl, rfl⟩
theorem RowInTable.illC3 : RowInTable.Statement .illC3 :=
  RowInTable.of 0xC3 rfl ⟨rfl, rfl, rfl, rfl, rfl, rfl⟩
theorem RowInTable.illC7 : RowInTable.Statement .illC7 :=
  RowInTable.of 0xC7 rfl ⟨rfl, rfl, rfl, rfl, rfl, rfl⟩
theorem RowInTable.illCB : RowInTable.Statement .illCB :=
  RowInTable.of 0xCB rfl ⟨rfl, rfl, rfl, rfl, rfl, rfl⟩
theorem RowInTable.illCF : RowInTable.Statement .illCF :=
  RowInTable.of 0xCF rfl ⟨rfl, rfl, rfl, rfl, rfl, rfl⟩
theorem RowInTable.illD2 : RowInTable.Statement .illD2 :=
  RowInTable.of 0xD2 rfl ⟨rfl, rfl, rfl, rfl, rfl, rfl⟩
theorem RowInTable.illD3 : RowInTable.Statement .illD3 :=
  RowInTable.of 0xD3 rfl ⟨rfl, rfl, rfl, rfl, rfl, rfl⟩
theorem RowInTable.illD4 : RowInTable.Statement .illD4 :=
  RowInTable.of 0xD4 rfl ⟨rfl, rfl, rfl, rfl, rfl, rfl⟩
theorem RowInTable.illD7 : RowInTable.Statement .illD7 :=
  RowInTable.of 0xD7 rfl ⟨rfl, rfl, rfl, rfl, rfl, rfl⟩
theorem RowInTable.illDA : RowInTable.Statement .illDA :=
  RowInTable.of 0xDA rfl ⟨rfl, rfl, rfl, rfl, rfl, rfl⟩
theorem RowInTable.illDB : RowInTable.Statement .illDB :=
  RowInTable.of 0xDB rfl ⟨rfl, rfl, rfl, rfl, rfl, rfl⟩
theorem RowInTable.illDC : RowInTable.Statement .illDC :=
  RowInTable.of 0xDC rfl ⟨rfl, rfl, rfl, rfl, rfl, rfl⟩
theorem RowInTable.illDF : RowInTable.Statement .illDF :=
  RowInTable.of 0xDF rfl ⟨rfl, rfl, rfl, rfl, rfl, rfl⟩
theorem RowInTable.illE2 : RowInTable.Statement .illE2 :=
  RowInTable.of 0xE2 rfl ⟨rfl, rfl, rfl, rfl, rfl, rfl⟩
theorem RowInTable.illE3 : RowInTable.Statement .illE3 :=
  RowInTable.of 0xE3 rfl ⟨rfl, rfl, rfl, rfl, rfl, rfl⟩
theorem RowInTable.illE7 : RowInTable.Statement .illE7 :=
  RowInTable.of 0xE7 rfl ⟨rfl, rfl, rfl, rfl, rfl, rfl⟩
theorem RowInTable.illEB : RowInTable.Statement .illEB :=
  RowInTable.of 0xEB rfl ⟨rfl, rfl, rfl, rfl, rfl, rfl⟩
theorem RowInTable.illEF : RowInTable.Statement .illEF :=
  RowInTable.of 0xEF rfl ⟨rfl, rfl, rfl, rfl, rfl, rfl⟩
theorem RowInTable.illF2 : RowInTable.Statement .illF2 :=
  RowInTable.of 0xF2 rfl ⟨rfl, rfl, rfl, rfl, rfl, rfl⟩
theorem RowInTable.illF3 : RowInTable.Statement .illF3 :=
  RowInTable.of 0xF3 rfl ⟨rfl, rfl, rfl, rfl, rfl, rfl⟩
theorem RowInTable.illF4 : RowInTable.Statement .illF4 :=
  RowInTable.of 0xF4 rfl ⟨rfl, rfl, rfl, rfl, rfl, rfl⟩
theorem RowInTable.illF7 : RowInTable.Statement .illF7 :=
  RowInTable.of 0xF7 rfl ⟨rfl, rfl, rfl, rfl, rfl, rfl⟩
theorem RowInTable.illFA : RowInTable.Statement .illFA :=
  RowInTable.of 0xFA rfl ⟨rfl, rfl, rfl, rfl, rfl, rfl⟩
theorem RowInTable.illFB : RowInTable.Statement .illFB :=
  RowInTable.of 0xFB rfl ⟨rfl, rfl, rfl, rfl, rfl, rfl⟩
theorem RowInTable.illFC : RowInTable.Statement .illFC :=
  RowInTable.of 0xFC rfl ⟨rfl, rfl, rfl, rfl, rfl, rfl⟩
theorem RowInTable.illFF : RowInTable.Statement .illFF :=
  RowInTable.of 0xFF rfl ⟨rfl, rfl, rfl, rfl, rfl, rfl⟩

end Sys2Proof.Laws
end

