-- ==== Sys2Proof/Laws/Ppu.lean ====
section
/-! SUPPORT. The picture unit's clock: what a dot of a rendered line leaves alone, where the raster goes, and what the
whole clock keeps. -/

namespace Sys2Proof.Machine

/-- What the fetch and sprite pipelines leave alone: registers, memories, the raster position, the NMI latch and the
frame (R360: only `Composite`, `StartVblank` and `Advance` change the last four). -/
structure Ppu.SameButPipelines (u w : Ppu) : Prop where
  ctrl : w.ctrl = u.ctrl
  mask : w.mask = u.mask
  t : w.t = u.t
  fineX : w.fineX = u.fineX
  toggle : w.w = u.w
  dataBuf : w.dataBuf = u.dataBuf
  oamAddr : w.oamAddr = u.oamAddr
  oam : w.oam = u.oam
  nt : w.nt = u.nt
  pal : w.pal = u.pal
  scanline : w.scanline = u.scanline
  dot : w.dot = u.dot
  nmi : w.nmi = u.nmi
  frameComplete : w.frameComplete = u.frameComplete
  frame : w.frame = u.frame

namespace Ppu.SameButPipelines

theorem refl (u : Ppu) : SameButPipelines u u := by constructor <;> rfl

theorem trans {u v w : Ppu} (h : SameButPipelines u v) (k : SameButPipelines v w) : SameButPipelines u w where
  ctrl := k.ctrl.trans h.ctrl
  mask := k.mask.trans h.mask
  t := k.t.trans h.t
  fineX := k.fineX.trans h.fineX
  toggle := k.toggle.trans h.toggle
  dataBuf := k.dataBuf.trans h.dataBuf
  oamAddr := k.oamAddr.trans h.oamAddr
  oam := k.oam.trans h.oam
  nt := k.nt.trans h.nt
  pal := k.pal.trans h.pal
  scanline := k.scanline.trans h.scanline
  dot := k.dot.trans h.dot
  nmi := k.nmi.trans h.nmi
  frameComplete := k.frameComplete.trans h.frameComplete
  frame := k.frame.trans h.frame

theorem ite {c : Prop} [Decidable c] {u a b : Ppu} (ha : SameButPipelines u a) (hb : SameButPipelines u b) :
    SameButPipelines u (if c then a else b) := by
  split
  · exact ha
  · exact hb

end Ppu.SameButPipelines

theorem Ppu.shift_frame (u : Ppu) (d : Nat) : SameButPipelines u (u.shift d) := by
  unfold Ppu.shift
  dsimp only
  split <;> split <;> constructor <;> rfl

theorem Ppu.tileDot_frame (u : Ppu) (rd : BitVec 14 → Byte) (d : Nat) (render : Bool) :
    SameButPipelines u (u.tileDot rd d render) := by
  unfold Ppu.tileDot
  split
  · constructor <;> rfl
  · constructor <;> rfl
  · constructor <;> rfl
  · constructor <;> rfl
  · refine .ite ?_ (.refl u)
    constructor <;> rfl
  · exact .refl u

/-- A dot of a rendered line changes the pipelines, `v` and the sprite flags, and nothing else. -/
theorem Ppu.lineDot_frame (u : Ppu) (rd : BitVec 14 → Byte) (line : Int) (d : Nat) (render : Bool) :
    SameButPipelines u (u.lineDot rd line d render) := by
  have step : ∀ {c : Prop} [Decidable c] (f : Ppu → Ppu), (∀ v, SameButPipelines v (f v)) → ∀ {v : Ppu},
      SameButPipelines u v → SameButPipelines u (if c then f v else v) :=
    fun f hf v h => .ite (h.trans (hf v)) h
  unfold Ppu.lineDot
  dsimp only
  refine step (fun v => v.fetchSprites rd line) (fun _ => by constructor <;> rfl) ?_
  refine step (fun v => v.evaluateSprites line) (fun _ => by constructor <;> rfl) ?_
  refine step (fun v => { v with v := transferY v.v v.t }) (fun _ => by constructor <;> rfl) ?_
  refine step (fun v => v.fetchNT rd) (fun _ => by constructor <;> rfl) ?_
  refine step (fun v => if render then { v.loadShifters with v := transferX v.loadShifters.v v.loadShifters.t }
    else v.loadShifters) (fun _ => by split <;> constructor <;> rfl) ?_
  refine step (fun v => { v with v := incY v.v }) (fun _ => by constructor <;> rfl) ?_
  refine step (fun v => (v.shift d).tileDot rd d render)
    (fun v => (v.shift_frame d).trans (Ppu.tileDot_frame _ rd d render)) ?_
  exact step Ppu.preRenderClear (fun _ => by constructor <;> rfl) (.refl u)

/-- `f` where `c` holds. -/
def Ppu.doIf (c : Prop) [Decidable c] (f : Ppu → Ppu) (u : Ppu) : Ppu := if c then f u else u

theorem Ppu.doIf_pos {c : Prop} [Decidable c] (h : c) (f : Ppu → Ppu) (u : Ppu) : doIf c f u = f u := if_pos h
theorem Ppu.doIf_neg {c : Prop} [Decidable c] (h : ¬c) (f : Ppu → Ppu) (u : Ppu) : doIf c f u = u := if_neg h

/-- The lines of R360's listing, one after another. -/
theorem Ppu.lineDot_eq (u : Ppu) (rd : BitVec 14 → Byte) (line : Int) (d : Nat) (render : Bool) :
    u.lineDot rd line d render =
      doIf (d = 340 ∧ 0 ≤ line) (fun w => w.fetchSprites rd line)
      (doIf (d = 257 ∧ 0 ≤ line) (fun w => w.evaluateSprites line)
      (doIf (line = -1 ∧ 280 ≤ d ∧ d ≤ 304 ∧ render = true) (fun w => { w with v := transferY w.v w.t })
      (doIf (d = 338 ∨ d = 340) (fun w => w.fetchNT rd)
      (doIf (d = 257) (fun w => doIf (render = true) (fun w => { w with v := transferX w.v w.t }) w.loadShifters)
      (doIf (d = 256 ∧ render = true) (fun w => { w with v := incY w.v })
      (doIf ((2 ≤ d ∧ d ≤ 257) ∨ (321 ≤ d ∧ d ≤ 337)) (fun w => (w.shift d).tileDot rd d render)
      (doIf (line = -1 ∧ d = 1) Ppu.preRenderClear u))))))) := rfl

/-- What a dot of a rendered line is, case by case over R360's listing: the clear at (-1, 1), the fetch sequence, its ends
at dots 256 and 257, the two late fetches, the vertical transfers, and the idle dots. -/
theorem Ppu.lineDot_cases (u : Ppu) (rd : BitVec 14 → Byte) (line : Int) (d : Nat) (render : Bool) :
    let w := u.lineDot rd line d render
    let f := (u.shift d).tileDot rd d render
    (line = -1 ∧ d = 1 ∧ w = u.preRenderClear)
      ∨ (((2 ≤ d ∧ d ≤ 255) ∨ (321 ≤ d ∧ d ≤ 337)) ∧ w = f)
      ∨ (d = 256 ∧ w = doIf (render = true) (fun w => { w with v := incY w.v }) f)
      ∨ (d = 257 ∧ w = doIf (0 ≤ line) (fun w => w.evaluateSprites line)
          (doIf (render = true) (fun w => { w with v := transferX w.v w.t }) f.loadShifters))
      ∨ (d = 338 ∧ w = u.fetchNT rd)
      ∨ (d = 340 ∧ w = doIf (0 ≤ line) (fun w => w.fetchSprites rd line) (u.fetchNT rd))
      ∨ (line = -1 ∧ 280 ≤ d ∧ d ≤ 304 ∧ w = doIf (render = true) (fun w => { w with v := transferY w.v w.t }) u)
      ∨ (¬(line = -1 ∧ d = 1) ∧ ¬(2 ≤ d ∧ d ≤ 257) ∧ ¬(321 ≤ d ∧ d ≤ 337) ∧ d ≠ 338 ∧ d ≠ 340
          ∧ ¬(line = -1 ∧ 280 ≤ d ∧ d ≤ 304) ∧ w = u) := by
  intro w f
  simp only [w, u.lineDot_eq]
  by_cases clear : line = -1 ∧ d = 1
  · obtain ⟨rfl, rfl⟩ := clear
    exact .inl ⟨rfl, rfl, by simp [doIf]⟩
  rw [doIf_neg clear]
  by_cases fetch : (2 ≤ d ∧ d ≤ 257) ∨ (321 ≤ d ∧ d ≤ 337)
  · rw [doIf_pos fetch, doIf_neg (show ¬(d = 338 ∨ d = 340) by omega),
      doIf_neg (show ¬(line = -1 ∧ 280 ≤ d ∧ d ≤ 304 ∧ render = true) by omega),
      doIf_neg (show ¬(d = 340 ∧ 0 ≤ line) by omega)]
    by_cases last : d = 257
    · refine .inr (.inr (.inr (.inl ⟨last, ?_⟩)))
      rw [doIf_neg (show ¬(d = 256 ∧ render = true) by omega), doIf_pos last]
      simp only [last, true_and, f]
    rw [doIf_neg last, doIf_neg (show ¬(d = 257 ∧ 0 ≤ line) by omega)]
    by_cases turn : d = 256
    · refine .inr (.inr (.inl ⟨turn, ?_⟩))
      simp only [turn, true_and, f]
    · exact .inr (.inl ⟨by omega, doIf_neg (by omega) _ _⟩)
  rw [doIf_neg fetch, doIf_neg (show ¬(d = 256 ∧ render = true) by omega), doIf_neg (show d ≠ 257 by omega),
    doIf_neg (show ¬(d = 257 ∧ 0 ≤ line) by omega)]
  by_cases late : d = 338 ∨ d = 340
  · rw [doIf_pos late, doIf_neg (show ¬(line = -1 ∧ 280 ≤ d ∧ d ≤ 304 ∧ render = true) by omega)]
    rcases late with late | late
    · exact .inr (.inr (.inr (.inr (.inl ⟨late, doIf_neg (by omega) _ _⟩))))
    · refine .inr (.inr (.inr (.inr (.inr (.inl ⟨late, ?_⟩)))))
      simp only [late, true_and]
  rw [doIf_neg late, doIf_neg (show ¬(d = 340 ∧ 0 ≤ line) by omega)]
  by_cases vertical : line = -1 ∧ 280 ≤ d ∧ d ≤ 304
  · refine .inr (.inr (.inr (.inr (.inr (.inr (.inl ⟨vertical.1, vertical.2.1, vertical.2.2, ?_⟩))))))
    simp only [vertical, true_and]
  · exact .inr (.inr (.inr (.inr (.inr (.inr (.inr ⟨clear, by omega, by omega, by omega, by omega, vertical,
      doIf_neg (by tauto) _ _⟩))))))

/-- The sprite count after any dot is what it was, 0, or what evaluation counts, at most 8 (R380, R401). -/
theorem Ppu.lineDot_spriteCount (u : Ppu) (rd : BitVec 14 → Byte) (line : Int) (d : Nat) (render : Bool)
    (h : u.spriteCount ≤ 8) : (u.lineDot rd line d render).spriteCount ≤ 8 := by
  have step : ∀ {c : Prop} [Decidable c] (f : Ppu → Ppu), (∀ v, v.spriteCount ≤ 8 → (f v).spriteCount ≤ 8) →
      ∀ {v : Ppu}, v.spriteCount ≤ 8 → (if c then f v else v).spriteCount ≤ 8 := by
    intro c _ f hf v h
    split
    · exact hf v h
    · exact h
  have tile : ∀ v : Ppu, v.spriteCount ≤ 8 → (v.tileDot rd d render).spriteCount ≤ 8 := by
    intro v h
    unfold Ppu.tileDot
    split <;> first | exact h | (split <;> exact h)
  have shift : ∀ v : Ppu, v.spriteCount ≤ 8 → (v.shift d).spriteCount ≤ 8 := by
    intro v h
    unfold Ppu.shift
    dsimp only
    split <;> split <;> exact h
  unfold Ppu.lineDot
  dsimp only
  refine step (fun v => v.fetchSprites rd line) (fun _ h => h) ?_
  refine step (fun v => v.evaluateSprites line) (fun _ _ => Nat.min_le_right _ _) ?_
  refine step (fun v => { v with v := transferY v.v v.t }) (fun _ h => h) ?_
  refine step (fun v => v.fetchNT rd) (fun _ h => h) ?_
  refine step (fun v => if render then { v.loadShifters with v := transferX v.loadShifters.v v.loadShifters.t }
    else v.loadShifters) (fun _ h => by split <;> exact h) ?_
  refine step (fun v => { v with v := incY v.v }) (fun _ h => h) ?_
  refine step (fun v => (v.shift d).tileDot rd d render) (fun v h => tile _ (shift v h)) ?_
  exact step Ppu.preRenderClear (fun _ _ => Nat.zero_le _) h

/-- What a clock leaves alone: registers and the memories it does not draw into (R360). -/
structure Ppu.SameRegisters (u w : Ppu) : Prop where
  ctrl : w.ctrl = u.ctrl
  mask : w.mask = u.mask
  t : w.t = u.t
  fineX : w.fineX = u.fineX
  toggle : w.w = u.w
  dataBuf : w.dataBuf = u.dataBuf
  oamAddr : w.oamAddr = u.oamAddr
  oam : w.oam = u.oam
  nt : w.nt = u.nt
  pal : w.pal = u.pal

/-- The unit before `Advance()`. -/
def Ppu.beforeAdvance (u : Ppu) (rd : BitVec 14 → Byte) (leftClip : Bool) : Ppu :=
  let u1 := if -1 ≤ u.scanline ∧ u.scanline ≤ 239 then u.lineDot rd u.scanline u.dot u.rendering else u
  let u2 := if u.scanline = 241 ∧ u.dot = 1 then u1.startVblank else u1
  if 0 ≤ u.scanline ∧ u.scanline ≤ 239 ∧ 1 ≤ u.dot ∧ u.dot ≤ 256 then u2.composite rd leftClip u.scanline u.dot
  else u2

theorem Ppu.clock_eq (u : Ppu) (rd : BitVec 14 → Byte) (leftClip : Bool) :
    u.clock rd leftClip = (u.beforeAdvance rd leftClip).advance := rfl

theorem Ppu.advance_frame (u : Ppu) : SameRegisters u u.advance := by
  unfold Ppu.advance
  split
  · split <;> constructor <;> rfl
  · constructor <;> rfl

theorem Ppu.lineOrNot_frame (u : Ppu) (rd : BitVec 14 → Byte) : SameButPipelines u
    (if -1 ≤ u.scanline ∧ u.scanline ≤ 239 then u.lineDot rd u.scanline u.dot u.rendering else u) :=
  .ite (u.lineDot_frame rd _ _ _) (.refl u)

theorem Ppu.clock_frame (u : Ppu) (rd : BitVec 14 → Byte) (leftClip : Bool) :
    SameRegisters u (u.clock rd leftClip) := by
  have h := u.lineOrNot_frame rd
  have k : SameRegisters u (u.beforeAdvance rd leftClip) := by
    unfold Ppu.beforeAdvance
    dsimp only
    split <;> split <;> exact ⟨h.ctrl, h.mask, h.t, h.fineX, h.toggle, h.dataBuf, h.oamAddr, h.oam, h.nt, h.pal⟩
  have a := (u.beforeAdvance rd leftClip).advance_frame
  rw [u.clock_eq]
  exact ⟨a.ctrl.trans k.ctrl, a.mask.trans k.mask, a.t.trans k.t, a.fineX.trans k.fineX, a.toggle.trans k.toggle,
    a.dataBuf.trans k.dataBuf, a.oamAddr.trans k.oamAddr, a.oam.trans k.oam, a.nt.trans k.nt, a.pal.trans k.pal⟩

theorem Ppu.beforeAdvance_position (u : Ppu) (rd : BitVec 14 → Byte) (leftClip : Bool) :
    (u.beforeAdvance rd leftClip).scanline = u.scanline ∧ (u.beforeAdvance rd leftClip).dot = u.dot := by
  have h := u.lineOrNot_frame rd
  unfold Ppu.beforeAdvance
  dsimp only
  split <;> split <;> exact ⟨h.scanline, h.dot⟩

/-- Where a clock leaves the raster (R362). -/
theorem Ppu.clock_position (u : Ppu) (rd : BitVec 14 → Byte) (leftClip : Bool) :
    (u.clock rd leftClip).dot = (if u.dot + 1 = 341 then 0 else u.dot + 1)
      ∧ (u.clock rd leftClip).scanline =
        (if u.dot + 1 = 341 then if u.scanline + 1 = 261 then -1 else u.scanline + 1 else u.scanline) := by
  obtain ⟨hs, hd⟩ := u.beforeAdvance_position rd leftClip
  rw [u.clock_eq, Ppu.advance, hs, hd]
  split
  · split <;> exact ⟨rfl, rfl⟩
  · exact ⟨rfl, rfl⟩

theorem Ppu.advance_rest (u : Ppu) : u.advance.nmi = u.nmi ∧ u.advance.frame = u.frame
    ∧ u.advance.spriteCount = u.spriteCount ∧ u.advance.vblank = u.vblank := by
  unfold Ppu.advance
  split
  · split <;> exact ⟨rfl, rfl, rfl, rfl⟩
  · exact ⟨rfl, rfl, rfl, rfl⟩

/-- The NMI latch after a clock (R400). -/
theorem Ppu.clock_nmi (u : Ppu) (rd : BitVec 14 → Byte) (leftClip : Bool) :
    (u.clock rd leftClip).nmi = (u.nmi || (decide (u.scanline = 241 ∧ u.dot = 1) && u.nmiEnable)) := by
  have h := u.lineOrNot_frame rd
  rw [u.clock_eq, (Ppu.advance_rest _).1]
  unfold Ppu.beforeAdvance
  dsimp only
  by_cases k : u.scanline = 241 ∧ u.dot = 1
  · simp only [k, and_self, if_true, decide_true, Bool.true_and]
    rw [if_neg (by omega)]
    rfl
  · simp only [k, if_false, decide_false, Bool.false_and, Bool.or_false]
    split
    · exact h.nmi
    · exact h.nmi

theorem Ppu.clock_spriteCount (u : Ppu) (rd : BitVec 14 → Byte) (leftClip : Bool) (h : u.spriteCount ≤ 8) :
    (u.clock rd leftClip).spriteCount ≤ 8 := by
  have k : (if -1 ≤ u.scanline ∧ u.scanline ≤ 239 then u.lineDot rd u.scanline u.dot u.rendering else u).spriteCount
      ≤ 8 := by
    split
    · exact u.lineDot_spriteCount rd _ _ _ h
    · exact h
  rw [u.clock_eq, (Ppu.advance_rest _).2.2.1]
  unfold Ppu.beforeAdvance
  dsimp only
  split <;> split <;> exact k

/-- A clock draws inside the frame (R395). -/
theorem Ppu.clock_frame_wf (u : Ppu) (rd : BitVec 14 → Byte) (leftClip : Bool)
    (h : Mem.wf (256 * 240) u.frame) : Mem.wf (256 * 240) (u.clock rd leftClip).frame := by
  have k := (u.lineOrNot_frame rd).frame
  rw [u.clock_eq, (Ppu.advance_rest _).2.1]
  unfold Ppu.beforeAdvance
  dsimp only
  by_cases c : 0 ≤ u.scanline ∧ u.scanline ≤ 239 ∧ 1 ≤ u.dot ∧ u.dot ≤ 256
  · rw [if_neg (show ¬(u.scanline = 241 ∧ u.dot = 1) by omega), if_pos c]
    refine Mem.wf_write _ ?_ (by rw [k]; exact h)
    omega
  · rw [if_neg c]
    split
    · show Mem.wf _ (if -1 ≤ u.scanline ∧ u.scanline ≤ 239 then u.lineDot rd u.scanline u.dot u.rendering else u).frame
      rw [k]; exact h
    · rw [k]; exact h

/-- The pipeline registers, `v` and the sprite flags are the same in `u` and `w`. -/
structure Ppu.SamePipelines (u w : Ppu) : Prop where
  v : w.v = u.v
  ntByte : w.ntByte = u.ntByte
  atBits : w.atBits = u.atBits
  ptLo : w.ptLo = u.ptLo
  ptHi : w.ptHi = u.ptHi
  bgLo : w.bgLo = u.bgLo
  bgHi : w.bgHi = u.bgHi
  bgAtLo : w.bgAtLo = u.bgAtLo
  bgAtHi : w.bgAtHi = u.bgAtHi
  slots : w.slots = u.slots
  spriteCount : w.spriteCount = u.spriteCount
  zeroPossible : w.zeroPossible = u.zeroPossible
  overflow : w.overflow = u.overflow

theorem Ppu.SamePipelines.trans {u v w : Ppu} (h : SamePipelines u v) (k : SamePipelines v w) : SamePipelines u w :=
  ⟨k.v.trans h.v, k.ntByte.trans h.ntByte, k.atBits.trans h.atBits, k.ptLo.trans h.ptLo, k.ptHi.trans h.ptHi,
    k.bgLo.trans h.bgLo, k.bgHi.trans h.bgHi, k.bgAtLo.trans h.bgAtLo, k.bgAtHi.trans h.bgAtHi, k.slots.trans h.slots,
    k.spriteCount.trans h.spriteCount, k.zeroPossible.trans h.zeroPossible, k.overflow.trans h.overflow⟩

theorem Ppu.SamePipelines.refl (u : Ppu) : SamePipelines u u := by constructor <;> rfl

/-- Everything a clock does after the dot of the line leaves the pipelines alone (R360). -/
theorem Ppu.clock_pipelines (u : Ppu) (rd : BitVec 14 → Byte) (leftClip : Bool) : SamePipelines
    (if -1 ≤ u.scanline ∧ u.scanline ≤ 239 then u.lineDot rd u.scanline u.dot u.rendering else u)
    (u.clock rd leftClip) := by
  have before : SamePipelines
      (if -1 ≤ u.scanline ∧ u.scanline ≤ 239 then u.lineDot rd u.scanline u.dot u.rendering else u)
      (u.beforeAdvance rd leftClip) := by
    unfold Ppu.beforeAdvance
    dsimp only
    generalize (if -1 ≤ u.scanline ∧ u.scanline ≤ 239 then u.lineDot rd u.scanline u.dot u.rendering else u) = w
    split <;> split <;> constructor <;> rfl
  have after : SamePipelines (u.beforeAdvance rd leftClip) (u.clock rd leftClip) := by
    rw [u.clock_eq]
    generalize u.beforeAdvance rd leftClip = w
    unfold Ppu.advance
    split
    · split <;> constructor <;> rfl
    · constructor <;> rfl
  exact before.trans after

end Sys2Proof.Machine
end

