-- ==== Sys2Proof/Laws/Tick.lean ====
section
/-! SUPPORT. The parts of a bus step: what comes before the CPU or DMA slot changes the picture unit, the audio unit and
the mapper's counter; the slot always goes on; what comes after it changes the audio accumulator, the two interrupt
latches, the CPU when an interrupt is delivered, and `n`. `step_cases` says once what a step does. -/

namespace Sys2Proof.Machine

/-! ## Before the slot -/

@[simp] theorem State.beforeSlot_cpu (s : State) : s.beforeSlot.cpu = s.cpu := rfl
@[simp] theorem State.beforeSlot_bus (s : State) : s.beforeSlot.bus = s.bus := rfl
@[simp] theorem State.beforeSlot_params (s : State) : s.beforeSlot.params = s.params := rfl
theorem State.beforeSlot_ppu (s : State) : s.beforeSlot.ppu = s.ppu.clock s.ppuRead s.params.leftClip := rfl
theorem State.beforeSlot_apu (s : State) : s.beforeSlot.apu = s.apu.clock := rfl
theorem State.beforeSlot_cart (s : State) :
    s.beforeSlot.cart = if s.ppu.scanlineDot then s.cart.map Cart.scanline else s.cart := rfl

/-- The mapper's `Scanline()` changes nothing that the CPU reads (R535). -/
theorem Cart.cpuRead_scanline (c : Cart) (a : Addr) : c.scanline.cpuRead a = c.cpuRead a := by
  obtain ⟨pb, cb, id, hw, prg, chr, mapper⟩ := c
  cases mapper <;> rfl

/-- `IRQClear()` changes nothing that the CPU reads (R536). -/
theorem Cart.cpuRead_irqClear (c : Cart) (a : Addr) : c.irqClear.cpuRead a = c.cpuRead a := by
  obtain ⟨pb, cb, id, hw, prg, chr, mapper⟩ := c
  cases mapper <;> rfl

/-! ## The slot -/

theorem State.cpuTick_goes_on (s : State) : ∃ t, s.cpuTick = .next t := by
  unfold State.cpuTick
  split
  · obtain ⟨t, h⟩ := exec_goes_on s.fetch.instr s.fetch.st
    exact ⟨t.countDown, by simp only [h, andThen]⟩
  · exact ⟨_, rfl⟩

theorem State.slot_goes_on (s : State) : ∃ t, s.slot = .next t := by
  unfold State.slot
  split
  · split
    · exact ⟨_, rfl⟩
    · exact s.cpuTick_goes_on
  · exact ⟨_, rfl⟩

/-- The three kinds of slot (R305). -/
theorem State.slot_cases {s t : State} (h : s.slot = .next t) :
    (s.bus.n % 3 ≠ 0 ∧ t = s) ∨ (s.bus.n % 3 = 0 ∧ s.bus.dmaArmed = true ∧ t = s.dmaStep)
      ∨ (s.bus.n % 3 = 0 ∧ s.bus.dmaArmed = false ∧ s.cpuTick = .next t) := by
  unfold State.slot at h
  by_cases h3 : s.bus.n % 3 = 0
  · rw [if_pos h3] at h
    cases hd : s.bus.dmaArmed with
    | false => exact .inr (.inr ⟨h3, rfl, by simpa [hd] using h⟩)
    | true => exact .inr (.inl ⟨h3, rfl, by simpa [hd] using h.symm⟩)
  · rw [if_neg h3] at h
    exact .inl ⟨h3, (Host.Outcome.next.inj h).symm⟩

@[simp] theorem State.dmaStep_cpu (s : State) : s.dmaStep.cpu = s.cpu := by
  unfold State.dmaStep
  split
  · split <;> rfl
  split
  · exact s.memRead_cpu _
  · rfl

/-- A relation that reads, writes and CPU changes keep, and the other changes of a DMA slot too, is kept by the slot. -/
theorem AccessClosed.slot {R : State → State → Prop} (hR : AccessClosed R)
    (bus : ∀ (s : State) (armed dummy : Bool) (addr data : Byte),
      R s { s with bus := { s.bus with dmaArmed := armed, dmaDummy := dummy, dmaAddr := addr, dmaData := data } })
    (oam : ∀ (s : State) (k v : Byte), R s { s with ppu := { s.ppu with oam := Mem.write s.ppu.oam k.toNat v } })
    {s t : State} (h : s.slot = .next t) : R s t := by
  rcases State.slot_cases h with ⟨_, rfl⟩ | ⟨_, _, rfl⟩ | ⟨_, _, h⟩
  · exact hR.refl _
  · unfold State.dmaStep
    split
    · split
      · exact bus s _ _ _ _
      · exact hR.refl s
    split
    · exact hR.trans (hR.read s _) (bus _ _ _ _ _)
    · exact hR.trans (oam s _ _) (bus _ _ _ _ _)
  · exact hR.cpuTick h

/-! ## After the slot -/

@[simp] theorem State.audioTick_cpu (s : State) : s.audioTick.cpu = s.cpu := by
  unfold State.audioTick
  dsimp only
  split <;> rfl
@[simp] theorem State.audioTick_ppu (s : State) : s.audioTick.ppu = s.ppu := by
  unfold State.audioTick
  dsimp only
  split <;> rfl
@[simp] theorem State.audioTick_cart (s : State) : s.audioTick.cart = s.cart := by
  unfold State.audioTick
  dsimp only
  split <;> rfl

/-- The two cases of `AudioTick()`: a sample is ready and `t_sample` is taken off, or the time is kept (R307). -/
theorem State.audioTick_cases (s : State) :
    let time := s.bus.audioTime.plus 1 s.params.tStep
    let rest := time.plus (-1) s.params.tSample
    (rest.nonneg = true ∧ s.audioTick = { s with bus := { s.bus with
        audioTime := rest, sample := s.apu.outputSample, sampleReady := true } })
      ∨ (rest.nonneg = false ∧ s.audioTick = { s with bus := { s.bus with audioTime := time, sampleReady := false } }) := by
  dsimp only
  cases h : ((s.bus.audioTime.plus 1 s.params.tStep).plus (-1) s.params.tSample).nonneg with
  | true => exact .inl ⟨rfl, if_pos h⟩
  | false => exact .inr ⟨rfl, if_neg (by simp [h])⟩

/-- `AudioTick()` keeps the canonical form of the accumulator. -/
theorem State.audioTick_wf {s : State} (h : s.bus.audioTime.wf) : s.audioTick.bus.audioTime.wf := by
  have time := AudioTime.wf_plus h one_ne_zero s.params.tStep
  rcases s.audioTick_cases with ⟨_, e⟩ | ⟨_, e⟩ <;> rw [e]
  · exact AudioTime.wf_plus time (by decide) _
  · exact time

/-- `AudioTick()` keeps the accumulator at least 0. -/
theorem State.audioTick_nonneg {s : State} (h : s.bus.audioTime.nonneg = true) :
    s.audioTick.bus.audioTime.nonneg = true := by
  rcases s.audioTick_cases with ⟨rest, e⟩ | ⟨_, e⟩ <;> rw [e]
  · exact rest
  · exact AudioTime.nonneg_plus_one h _

/-- What `AudioTick()` changes (R307). -/
theorem State.audioTick_frame (s : State) : s.audioTick = { s with bus := { s.bus with
    audioTime := s.audioTick.bus.audioTime, sample := s.audioTick.bus.sample,
    sampleReady := s.audioTick.bus.sampleReady } } := by
  unfold State.audioTick
  dsimp only
  split <;> rfl

/-- An interrupt changes the CPU and the stack page of RAM, and nothing else (R270). -/
theorem State.enter_frame (s : State) {v : Addr} (cost : Nat) (h : 0x4018 ≤ v.toNat) (h' : v.toNat < 0xFFFF) :
    s.enter v cost = { s with
      cpu := (s.enter v cost).cpu, bus := { s.bus with ram := (s.enter v cost).bus.ram } } := by
  rw [s.enter_eq cost h h']

theorem State.nmi_frame (s : State) :
    s.nmi = { s with cpu := s.nmi.cpu, bus := { s.bus with ram := s.nmi.bus.ram } } :=
  s.enter_frame _ (by decide) (by decide)

theorem State.irq_frame (s : State) :
    s.irq = { s with cpu := s.irq.cpu, bus := { s.bus with ram := s.irq.bus.ram } } := by
  unfold State.irq
  split
  · rfl
  · exact s.enter_frame _ (by decide) (by decide)

/-- The NMI poll: the CPU and the stack page when it delivers, and the latch. -/
theorem State.pollNmi_frame (s : State) :
    s.pollNmi = { s with
      cpu := s.pollNmi.cpu, ppu := { s.ppu with nmi := false }, bus := { s.bus with ram := s.pollNmi.bus.ram } } := by
  unfold State.pollNmi
  by_cases h : s.ppu.nmi = true
  · simp only [h, if_true]
    exact State.nmi_frame _
  · have h' : s.ppu.nmi = false := by simpa using h
    simp only [h', if_false, Bool.false_eq_true]
    rw [← h']

/-- The IRQ poll: the CPU and the stack page when it delivers, and the mapper's flag. -/
theorem State.pollIrq_frame (s : State) :
    s.pollIrq = { s with
      cpu := s.pollIrq.cpu, cart := s.cart.map Cart.irqClear, bus := { s.bus with ram := s.pollIrq.bus.ram } } := by
  have clear : ∀ c : Cart, c.irqState = false → c.irqClear = c := by
    rintro ⟨pb, cb, id, hw, prg, chr, mapper⟩ h
    cases mapper with
    | v4 m => simp only [Cart.irqState] at h; simp only [Cart.irqClear, ← h]
    | _ => rfl
  unfold State.pollIrq
  cases hc : s.cart with
  | none => simp only [Option.map_none]; rw [← hc]
  | some c =>
    dsimp only [Option.map_some]
    split
    · exact State.irq_frame _
    · next h => rw [clear c (by simpa using h), ← hc]

/-- After the slot: both latches down, `n` one further, the picture unit otherwise as it was (R303, R305). -/
theorem State.afterSlot_facts (s : State) :
    s.afterSlot.ppu = { s.ppu with nmi := false } ∧ s.afterSlot.apu = s.apu ∧ s.afterSlot.params = s.params
      ∧ s.afterSlot.cart = s.cart.map Cart.irqClear
      ∧ s.afterSlot.bus = { s.bus with
          n := s.bus.n + 1, ram := s.afterSlot.bus.ram, audioTime := s.afterSlot.bus.audioTime,
          sample := s.afterSlot.bus.sample, sampleReady := s.afterSlot.bus.sampleReady } := by
  unfold State.afterSlot State.countStep
  rw [State.pollIrq_frame, State.pollNmi_frame, State.audioTick_frame]
  exact ⟨rfl, rfl, rfl, rfl, rfl⟩

/-- Only `AudioTick()` touches the accumulator after the slot (R305, R307). -/
theorem State.afterSlot_audioTime (s : State) : s.afterSlot.bus.audioTime = s.audioTick.bus.audioTime := by
  unfold State.afterSlot State.countStep
  rw [State.pollIrq_frame, State.pollNmi_frame]

/-! ## The step -/

/-- What a step is: the clocks, the slot, the rest (R305). -/
theorem step_cases {s t : State} (h : step s = .next t) : ∃ u, s.beforeSlot.slot = .next u ∧ t = u.afterSlot := by
  obtain ⟨u, hu⟩ := s.beforeSlot.slot_goes_on
  refine ⟨u, hu, ?_⟩
  unfold step State.busClock at h
  rw [hu] at h
  exact (Host.Outcome.next.inj h).symm

theorem step_eq {s u : State} (h : s.beforeSlot.slot = .next u) : step s = .next u.afterSlot := by
  unfold step State.busClock
  rw [h]
  rfl

end Sys2Proof.Machine
end

