-- ==== Sys2Proof/Tests/Slice0.lean ====
section
/-! SUPPORT. Small tests of the model. Decoding: every row of spec/opcode_table.json, its word written out from the
table. The expected values of the others are the vectors `V<n>` of 95_test_vectors.md and the examples of the rules,
never the model's own answers. Last, for each obligation with hypotheses, a state and operands that meet them. -/

namespace Sys2Proof.Tests

open Sys2Proof Sys2Proof.Machine Sys2Proof.Stated

/-! ## Helpers -/

/-- A variant-0 cartridge with two PRG banks, `code` at CPU address 0x8000 (95_test_vectors.md, conventions). -/
def codeCart (code : List Byte) : Cart :=
  { prgBanks := 2, chrBanks := 1, mapperId := 0, hwMirror := .vertical, prg := Mem.ofBytes code, chr := [],
    mapper := .v0 }

/-- A cartridge of a mapper, with `banks` PRG banks and CHR RAM. -/
def mapperCart (banks : Byte) (m : Mapper) : Cart :=
  { prgBanks := banks, chrBanks := 0, mapperId := BitVec.ofNat 8 m.variant, hwMirror := .horizontal, prg := [],
    chr := [], mapper := m }

/-- The start state of the CPU vectors. -/
def start (code : List Byte) : State :=
  { State.reset with cpu := { Cpu.reset with pc := 0x8000, cycles := 0 }, cart := some (codeCart code) }

def withCart (c : Cart) : State := { State.reset with cart := some c }

def poke (s : State) (l : List (Addr × Byte)) : State := l.foldl (fun s c => s.memWrite c.1 c.2) s

/-- The state after one CPU tick. -/
def ran (s : State) : State :=
  match s.cpuTick with
  | .next t => t
  | .fault _ | .refused _ => s

/-- Cost of the instruction that the last tick ran: the tick has counted one cycle down (R40). -/
def cost (s : State) : Nat := s.cpu.cycles + 1

/-- The next state of an outcome. -/
def next (o : Host.Outcome State Fault Refusal) (s : State) : State :=
  match o with
  | .next t => t
  | .fault _ | .refused _ => s

def reg1 : Mapper1 :=
  { load := 0, count := 0, control := 0x1C, chrLo := 0, chrHi := 0, chr8 := 0, prgLo := 0, prgHi := 7, prg32 := 0,
    ram := [] }

def reg4 : Mapper4 :=
  { target := 0, prgMode := false, chrInv := false, r := #v[0, 2, 4, 5, 6, 7, 0, 1], mirror := .horizontal,
    irqCounter := 0, irqReload := 0, irqEnable := false, irqActive := false, ram := [] }

def offsets (c : Cart) (l : List Addr) : List MapResult := l.map c.cpuMapRead

/-! ## WellFormed refuses -/

/-- No immediate store (R153). -/
theorem test_wellFormed_sta_imm : (⟨.sta, .imm 0⟩ : Line).wellFormed = false := rfl
/-- `LDX` is indexed by `Y`, never by `X` (R151). -/
theorem test_wellFormed_ldx_zpx : (⟨.ldx, .mem (.zpx 0)⟩ : Line).wellFormed = false := rfl
/-- `ZPY` only with `LDX` and `STX` (R135). -/
theorem test_wellFormed_lda_zpy : (⟨.lda, .mem (.zpy 0)⟩ : Line).wellFormed = false := rfl
/-- `IND` only with `JMP` (R140). -/
theorem test_wellFormed_lda_ind : (⟨.lda, .mem (.ind 0)⟩ : Line).wellFormed = false := rfl
theorem test_wellFormed_jmp_zp0 : (⟨.jmp, .mem (.zp0 0)⟩ : Line).wellFormed = false := rfl
/-- `REL` only with the branches (R141). -/
theorem test_wellFormed_jmp_rel : (⟨.jmp, .rel 0⟩ : Line).wellFormed = false := rfl
theorem test_wellFormed_bne_abs : (⟨.bne, .mem (.abs 0)⟩ : Line).wellFormed = false := rfl
theorem test_wellFormed_asl_imm : (⟨.asl, .imm 0⟩ : Line).wellFormed = false := rfl
theorem test_wellFormed_inc_acc : (⟨.inc, .acc⟩ : Line).wellFormed = false := rfl
/-- A documented opcode is no illegal one (R112). -/
theorem test_wellFormed_ill_EA : (⟨.ill 0xEA, .imp⟩ : Line).wellFormed = false := rfl
/-- A branch target out of range (R118). -/
theorem test_branch_out_of_range : branchByte 0x8000 0x8082 = none ∧ branchByte 0x8000 0x7F81 = none := by decide
theorem test_branch_in_range :
    branchByte 0x8000 0x8081 = some 0x7F ∧ branchByte 0x8000 0x7F82 = some 0x80 ∧ branchByte 0x8005 0x8004 = some 0xFD := by
  decide

/-! ## Decoding -/

theorem test_decode_rejects :
    decode [] = .error .noOpcode ∧ decode [0xA9] = .error (.missingOperand 0xA9)
      ∧ decode [0x4C, 0x00] = .error (.missingOperand 0x4C) := ⟨rfl, rfl, rfl⟩

theorem test_decode_loads :
    [decodeTableWord 16 0b1100010110100001,
     decodeTableWord 16 0b1100010110100101,
     decodeTableWord 16 0b1100010110101001,
     decodeTableWord 24 0b100100100011010010101101,
     decodeTableWord 16 0b1100010110110001,
     decodeTableWord 16 0b1100010110110101,
     decodeTableWord 24 0b100100100011010010111001,
     decodeTableWord 24 0b100100100011010010111101,
     decodeTableWord 16 0b1100010110100010,
     decodeTableWord 16 0b1100010110100110,
     decodeTableWord 24 0b100100100011010010101110,
     decodeTableWord 16 0b1100010110110110,
     decodeTableWord 24 0b100100100011010010111110,
     decodeTableWord 16 0b1100010110100000,
     decodeTableWord 16 0b1100010110100100,
     decodeTableWord 24 0b100100100011010010101100,
     decodeTableWord 16 0b1100010110110100,
     decodeTableWord 24 0b100100100011010010111100]
    = [some (.ldaIzx 0xC5), some (.ldaZp0 0xC5), some (.ldaImm 0xC5), some (.ldaAbs 0x9234),
       some (.ldaIzy 0xC5), some (.ldaZpx 0xC5), some (.ldaAby 0x9234), some (.ldaAbx 0x9234),
       some (.ldxImm 0xC5), some (.ldxZp0 0xC5), some (.ldxAbs 0x9234), some (.ldxZpy 0xC5),
       some (.ldxAby 0x9234), some (.ldyImm 0xC5), some (.ldyZp0 0xC5), some (.ldyAbs 0x9234),
       some (.ldyZpx 0xC5), some (.ldyAbx 0x9234)] := rfl

theorem test_decode_stores :
    [decodeTableWord 16 0b1100010110000001,
     decodeTableWord 16 0b1100010110000101,
     decodeTableWord 24 0b100100100011010010001101,
     decodeTableWord 16 0b1100010110010001,
     decodeTableWord 16 0b1100010110010101,
     decodeTableWord 24 0b100100100011010010011001,
     decodeTableWord 24 0b100100100011010010011101,
     decodeTableWord 16 0b1100010110000110,
     decodeTableWord 24 0b100100100011010010001110,
     decodeTableWord 16 0b1100010110010110,
     decodeTableWord 16 0b1100010110000100,
     decodeTableWord 24 0b100100100011010010001100,
     decodeTableWord 16 0b1100010110010100]
    = [some (.staIzx 0xC5), some (.staZp0 0xC5), some (.staAbs 0x9234), some (.staIzy 0xC5),
       some (.staZpx 0xC5), some (.staAby 0x9234), some (.staAbx 0x9234), some (.stxZp0 0xC5),
       some (.stxAbs 0x9234), some (.stxZpy 0xC5), some (.styZp0 0xC5), some (.styAbs 0x9234),
       some (.styZpx 0xC5)] := rfl

theorem test_decode_transfers_stack :
    [decodeTableWord 8 0b10101010,
     decodeTableWord 8 0b10101000,
     decodeTableWord 8 0b10001010,
     decodeTableWord 8 0b10011000,
     decodeTableWord 8 0b10111010,
     decodeTableWord 8 0b10011010,
     decodeTableWord 8 0b01001000,
     decodeTableWord 8 0b00001000,
     decodeTableWord 8 0b01101000,
     decodeTableWord 8 0b00101000]
    = [some .tax, some .tay, some .txa, some .tya,
       some .tsx, some .txs, some .pha, some .php,
       some .pla, some .plp] := rfl

theorem test_decode_and :
    [decodeTableWord 16 0b1100010100100001,
     decodeTableWord 16 0b1100010100100101,
     decodeTableWord 16 0b1100010100101001,
     decodeTableWord 24 0b100100100011010000101101,
     decodeTableWord 16 0b1100010100110001,
     decodeTableWord 16 0b1100010100110101,
     decodeTableWord 24 0b100100100011010000111001,
     decodeTableWord 24 0b100100100011010000111101]
    = [some (.andIzx 0xC5), some (.andZp0 0xC5), some (.andImm 0xC5), some (.andAbs 0x9234),
       some (.andIzy 0xC5), some (.andZpx 0xC5), some (.andAby 0x9234), some (.andAbx 0x9234)] := rfl

theorem test_decode_ora :
    [decodeTableWord 16 0b1100010100000001,
     decodeTableWord 16 0b1100010100000101,
     decodeTableWord 16 0b1100010100001001,
     decodeTableWord 24 0b100100100011010000001101,
     decodeTableWord 16 0b1100010100010001,
     decodeTableWord 16 0b1100010100010101,
     decodeTableWord 24 0b100100100011010000011001,
     decodeTableWord 24 0b100100100011010000011101]
    = [some (.oraIzx 0xC5), some (.oraZp0 0xC5), some (.oraImm 0xC5), some (.oraAbs 0x9234),
       some (.oraIzy 0xC5), some (.oraZpx 0xC5), some (.oraAby 0x9234), some (.oraAbx 0x9234)] := rfl

theorem test_decode_eor :
    [decodeTableWord 16 0b1100010101000001,
     decodeTableWord 16 0b1100010101000101,
     decodeTableWord 16 0b1100010101001001,
     decodeTableWord 24 0b100100100011010001001101,
     decodeTableWord 16 0b1100010101010001,
     decodeTableWord 16 0b1100010101010101,
     decodeTableWord 24 0b100100100011010001011001,
     decodeTableWord 24 0b100100100011010001011101]
    = [some (.eorIzx 0xC5), some (.eorZp0 0xC5), some (.eorImm 0xC5), some (.eorAbs 0x9234),
       some (.eorIzy 0xC5), some (.eorZpx 0xC5), some (.eorAby 0x9234), some (.eorAbx 0x9234)] := rfl

theorem test_decode_bit :
    [decodeTableWord 16 0b1100010100100100,
     decodeTableWord 24 0b100100100011010000101100]
    = [some (.bitZp0 0xC5), some (.bitAbs 0x9234)] := rfl

theorem test_decode_adc :
    [decodeTableWord 16 0b1100010101100001,
     decodeTableWord 16 0b1100010101100101,
     decodeTableWord 16 0b1100010101101001,
     decodeTableWord 24 0b100100100011010001101101,
     decodeTableWord 16 0b1100010101110001,
     decodeTableWord 16 0b1100010101110101,
     decodeTableWord 24 0b100100100011010001111001,
     decodeTableWord 24 0b100100100011010001111101]
    = [some (.adcIzx 0xC5), some (.adcZp0 0xC5), some (.adcImm 0xC5), some (.adcAbs 0x9234),
       some (.adcIzy 0xC5), some (.adcZpx 0xC5), some (.adcAby 0x9234), some (.adcAbx 0x9234)] := rfl

theorem test_decode_sbc :
    [decodeTableWord 16 0b1100010111100001,
     decodeTableWord 16 0b1100010111100101,
     decodeTableWord 16 0b1100010111101001,
     decodeTableWord 24 0b100100100011010011101101,
     decodeTableWord 16 0b1100010111110001,
     decodeTableWord 16 0b1100010111110101,
     decodeTableWord 24 0b100100100011010011111001,
     decodeTableWord 24 0b100100100011010011111101]
    = [some (.sbcIzx 0xC5), some (.sbcZp0 0xC5), some (.sbcImm 0xC5), some (.sbcAbs 0x9234),
       some (.sbcIzy 0xC5), some (.sbcZpx 0xC5), some (.sbcAby 0x9234), some (.sbcAbx 0x9234)] := rfl

theorem test_decode_cmp :
    [decodeTableWord 16 0b1100010111000001,
     decodeTableWord 16 0b1100010111000101,
     decodeTableWord 16 0b1100010111001001,
     decodeTableWord 24 0b100100100011010011001101,
     decodeTableWord 16 0b1100010111010001,
     decodeTableWord 16 0b1100010111010101,
     decodeTableWord 24 0b100100100011010011011001,
     decodeTableWord 24 0b100100100011010011011101]
    = [some (.cmpIzx 0xC5), some (.cmpZp0 0xC5), some (.cmpImm 0xC5), some (.cmpAbs 0x9234),
       some (.cmpIzy 0xC5), some (.cmpZpx 0xC5), some (.cmpAby 0x9234), some (.cmpAbx 0x9234)] := rfl

theorem test_decode_cpx :
    [decodeTableWord 16 0b1100010111100000,
     decodeTableWord 16 0b1100010111100100,
     decodeTableWord 24 0b100100100011010011101100]
    = [some (.cpxImm 0xC5), some (.cpxZp0 0xC5), some (.cpxAbs 0x9234)] := rfl

theorem test_decode_cpy :
    [decodeTableWord 16 0b1100010111000000,
     decodeTableWord 16 0b1100010111000100,
     decodeTableWord 24 0b100100100011010011001100]
    = [some (.cpyImm 0xC5), some (.cpyZp0 0xC5), some (.cpyAbs 0x9234)] := rfl

theorem test_decode_incdec :
    [decodeTableWord 16 0b1100010111100110,
     decodeTableWord 24 0b100100100011010011101110,
     decodeTableWord 16 0b1100010111110110,
     decodeTableWord 24 0b100100100011010011111110,
     decodeTableWord 16 0b1100010111000110,
     decodeTableWord 24 0b100100100011010011001110,
     decodeTableWord 16 0b1100010111010110,
     decodeTableWord 24 0b100100100011010011011110,
     decodeTableWord 8 0b11101000,
     decodeTableWord 8 0b11001000,
     decodeTableWord 8 0b11001010,
     decodeTableWord 8 0b10001000]
    = [some (.incZp0 0xC5), some (.incAbs 0x9234), some (.incZpx 0xC5), some (.incAbx 0x9234),
       some (.decZp0 0xC5), some (.decAbs 0x9234), some (.decZpx 0xC5), some (.decAbx 0x9234),
       some .inx, some .iny, some .dex, some .dey] := rfl

theorem test_decode_shifts :
    [decodeTableWord 16 0b1100010100000110,
     decodeTableWord 8 0b00001010,
     decodeTableWord 24 0b100100100011010000001110,
     decodeTableWord 16 0b1100010100010110,
     decodeTableWord 24 0b100100100011010000011110,
     decodeTableWord 16 0b1100010101000110,
     decodeTableWord 8 0b01001010,
     decodeTableWord 24 0b100100100011010001001110,
     decodeTableWord 16 0b1100010101010110,
     decodeTableWord 24 0b100100100011010001011110,
     decodeTableWord 16 0b1100010100100110,
     decodeTableWord 8 0b00101010,
     decodeTableWord 24 0b100100100011010000101110,
     decodeTableWord 16 0b1100010100110110,
     decodeTableWord 24 0b100100100011010000111110,
     decodeTableWord 16 0b1100010101100110,
     decodeTableWord 8 0b01101010,
     decodeTableWord 24 0b100100100011010001101110,
     decodeTableWord 16 0b1100010101110110,
     decodeTableWord 24 0b100100100011010001111110]
    = [some (.aslZp0 0xC5), some .aslAcc, some (.aslAbs 0x9234), some (.aslZpx 0xC5),
       some (.aslAbx 0x9234), some (.lsrZp0 0xC5), some .lsrAcc, some (.lsrAbs 0x9234),
       some (.lsrZpx 0xC5), some (.lsrAbx 0x9234), some (.rolZp0 0xC5), some .rolAcc,
       some (.rolAbs 0x9234), some (.rolZpx 0xC5), some (.rolAbx 0x9234), some (.rorZp0 0xC5),
       some .rorAcc, some (.rorAbs 0x9234), some (.rorZpx 0xC5), some (.rorAbx 0x9234)] := rfl

theorem test_decode_control :
    [decodeTableWord 24 0b100100100011010001001100,
     decodeTableWord 24 0b100100100011010001101100,
     decodeTableWord 24 0b100100100011010000100000,
     decodeTableWord 8 0b01100000,
     decodeTableWord 16 0b1100010110010000,
     decodeTableWord 16 0b1100010110110000,
     decodeTableWord 16 0b1100010111110000,
     decodeTableWord 16 0b1100010111010000,
     decodeTableWord 16 0b1100010100110000,
     decodeTableWord 16 0b1100010100010000,
     decodeTableWord 16 0b1100010101010000,
     decodeTableWord 16 0b1100010101110000]
    = [some (.jmpAbs 0x9234), some (.jmpInd 0x9234), some (.jsrAbs 0x9234), some .rts,
       some (.bcc 0xC5), some (.bcs 0xC5), some (.beq 0xC5), some (.bne 0xC5),
       some (.bmi 0xC5), some (.bpl 0xC5), some (.bvc 0xC5), some (.bvs 0xC5)] := rfl

theorem test_decode_system :
    [decodeTableWord 8 0b00011000,
     decodeTableWord 8 0b00111000,
     decodeTableWord 8 0b01011000,
     decodeTableWord 8 0b01111000,
     decodeTableWord 8 0b11011000,
     decodeTableWord 8 0b11111000,
     decodeTableWord 8 0b10111000,
     decodeTableWord 8 0b11101010,
     decodeTableWord 8 0b00000000,
     decodeTableWord 8 0b01000000]
    = [some .clc, some .sec, some .cli, some .sei,
       some .cld, some .sed, some .clv, some .nop,
       some .brk, some .rti] := rfl

theorem test_decode_illegal_0x_to_3x :
    [decodeTableWord 8 0b00000010,
     decodeTableWord 8 0b00000011,
     decodeTableWord 8 0b00000100,
     decodeTableWord 8 0b00000111,
     decodeTableWord 8 0b00001011,
     decodeTableWord 8 0b00001100,
     decodeTableWord 8 0b00001111,
     decodeTableWord 8 0b00010010,
     decodeTableWord 8 0b00010011,
     decodeTableWord 8 0b00010100,
     decodeTableWord 8 0b00010111,
     decodeTableWord 8 0b00011010,
     decodeTableWord 8 0b00011011,
     decodeTableWord 8 0b00011100,
     decodeTableWord 8 0b00011111,
     decodeTableWord 8 0b00100010,
     decodeTableWord 8 0b00100011,
     decodeTableWord 8 0b00100111,
     decodeTableWord 8 0b00101011,
     decodeTableWord 8 0b00101111,
     decodeTableWord 8 0b00110010,
     decodeTableWord 8 0b00110011,
     decodeTableWord 8 0b00110100,
     decodeTableWord 8 0b00110111,
     decodeTableWord 8 0b00111010,
     decodeTableWord 8 0b00111011,
     decodeTableWord 8 0b00111100,
     decodeTableWord 8 0b00111111]
    = [some .ill02, some .ill03, some .ill04, some .ill07,
       some .ill0B, some .ill0C, some .ill0F, some .ill12,
       some .ill13, some .ill14, some .ill17, some .ill1A,
       some .ill1B, some .ill1C, some .ill1F, some .ill22,
       some .ill23, some .ill27, some .ill2B, some .ill2F,
       some .ill32, some .ill33, some .ill34, some .ill37,
       some .ill3A, some .ill3B, some .ill3C, some .ill3F] := rfl

theorem test_decode_illegal_4x_to_7x :
    [decodeTableWord 8 0b01000010,
     decodeTableWord 8 0b01000011,
     decodeTableWord 8 0b01000100,
     decodeTableWord 8 0b01000111,
     decodeTableWord 8 0b01001011,
     decodeTableWord 8 0b01001111,
     decodeTableWord 8 0b01010010,
     decodeTableWord 8 0b01010011,
     decodeTableWord 8 0b01010100,
     decodeTableWord 8 0b01010111,
     decodeTableWord 8 0b01011010,
     decodeTableWord 8 0b01011011,
     decodeTableWord 8 0b01011100,
     decodeTableWord 8 0b01011111,
     decodeTableWord 8 0b01100010,
     decodeTableWord 8 0b01100011,
     decodeTableWord 8 0b01100100,
     decodeTableWord 8 0b01100111,
     decodeTableWord 8 0b01101011,
     decodeTableWord 8 0b01101111,
     decodeTableWord 8 0b01110010,
     decodeTableWord 8 0b01110011,
     decodeTableWord 8 0b01110100,
     decodeTableWord 8 0b01110111,
     decodeTableWord 8 0b01111010,
     decodeTableWord 8 0b01111011,
     decodeTableWord 8 0b01111100,
     decodeTableWord 8 0b01111111]
    = [some .ill42, some .ill43, some .ill44, some .ill47,
       some .ill4B, some .ill4F, some .ill52, some .ill53,
       some .ill54, some .ill57, some .ill5A, some .ill5B,
       some .ill5C, some .ill5F, some .ill62, some .ill63,
       some .ill64, some .ill67, some .ill6B, some .ill6F,
       some .ill72, some .ill73, some .ill74, some .ill77,
       some .ill7A, some .ill7B, some .ill7C, some .ill7F] := rfl

theorem test_decode_illegal_8x_to_Bx :
    [decodeTableWord 8 0b10000000,
     decodeTableWord 8 0b10000010,
     decodeTableWord 8 0b10000011,
     decodeTableWord 8 0b10000111,
     decodeTableWord 8 0b10001001,
     decodeTableWord 8 0b10001011,
     decodeTableWord 8 0b10001111,
     decodeTableWord 8 0b10010010,
     decodeTableWord 8 0b10010011,
     decodeTableWord 8 0b10010111,
     decodeTableWord 8 0b10011011,
     decodeTableWord 8 0b10011100,
     decodeTableWord 8 0b10011110,
     decodeTableWord 8 0b10011111,
     decodeTableWord 8 0b10100011,
     decodeTableWord 8 0b10100111,
     decodeTableWord 8 0b10101011,
     decodeTableWord 8 0b10101111,
     decodeTableWord 8 0b10110010,
     decodeTableWord 8 0b10110011,
     decodeTableWord 8 0b10110111,
     decodeTableWord 8 0b10111011,
     decodeTableWord 8 0b10111111]
    = [some .ill80, some .ill82, some .ill83, some .ill87,
       some .ill89, some .ill8B, some .ill8F, some .ill92,
       some .ill93, some .ill97, some .ill9B, some .ill9C,
       some .ill9E, some .ill9F, some .illA3, some .illA7,
       some .illAB, some .illAF, some .illB2, some .illB3,
       some .illB7, some .illBB, some .illBF] := rfl

theorem test_decode_illegal_Cx_to_Fx :
    [decodeTableWord 8 0b11000010,
     decodeTableWord 8 0b11000011,
     decodeTableWord 8 0b11000111,
     decodeTableWord 8 0b11001011,
     decodeTableWord 8 0b11001111,
     decodeTableWord 8 0b11010010,
     decodeTableWord 8 0b11010011,
     decodeTableWord 8 0b11010100,
     decodeTableWord 8 0b11010111,
     decodeTableWord 8 0b11011010,
     decodeTableWord 8 0b11011011,
     decodeTableWord 8 0b11011100,
     decodeTableWord 8 0b11011111,
     decodeTableWord 8 0b11100010,
     decodeTableWord 8 0b11100011,
     decodeTableWord 8 0b11100111,
     decodeTableWord 8 0b11101011,
     decodeTableWord 8 0b11101111,
     decodeTableWord 8 0b11110010,
     decodeTableWord 8 0b11110011,
     decodeTableWord 8 0b11110100,
     decodeTableWord 8 0b11110111,
     decodeTableWord 8 0b11111010,
     decodeTableWord 8 0b11111011,
     decodeTableWord 8 0b11111100,
     decodeTableWord 8 0b11111111]
    = [some .illC2, some .illC3, some .illC7, some .illCB,
       some .illCF, some .illD2, some .illD3, some .illD4,
       some .illD7, some .illDA, some .illDB, some .illDC,
       some .illDF, some .illE2, some .illE3, some .illE7,
       some .illEB, some .illEF, some .illF2, some .illF3,
       some .illF4, some .illF7, some .illFA, some .illFB,
       some .illFC, some .illFF] := rfl

/-! ## Instructions -/

/-- `ADC #m` or `SBC #m` or a compare: `A` and `P` after. -/
def aluCase (op a m : Byte) (c : Bool) : Byte × Byte :=
  let t := ran (((start [op, m]).setA a).setP (if c then 0x21 else 0x20))
  (t.cpu.a, t.cpu.p)

/-- V20 to V26. -/
theorem test_adc :
    [aluCase 0x69 0x50 0x50 false, aluCase 0x69 0x50 0x10 false, aluCase 0x69 0xD0 0x90 false,
      aluCase 0x69 0xFF 0x01 false, aluCase 0x69 0x7F 0x00 true, aluCase 0x69 0x00 0x00 false,
      aluCase 0x69 0x80 0xFF false]
    = [(0xA0, 0xE0), (0x60, 0x20), (0x60, 0x61), (0x00, 0x23), (0x80, 0xE0), (0x00, 0x22), (0x7F, 0x61)] := by decide
/-- V34: D changes nothing. -/
theorem test_adc_decimal :
    (let t := ran (((start [0x69, 0x01]).setA 0x09).setP 0x28); (t.cpu.a, t.cpu.p)) = (0x0A, 0x28) := by decide
/-- V27 to V33. -/
theorem test_sbc :
    [aluCase 0xE9 0x50 0xF0 true, aluCase 0xE9 0x50 0xB0 true, aluCase 0xE9 0x00 0x01 true, aluCase 0xE9 0x80 0x01 true,
      aluCase 0xE9 0x05 0x05 true, aluCase 0xE9 0x05 0x05 false, aluCase 0xE9 0x00 0x00 false]
    = [(0x60, 0x20), (0xA0, 0xE0), (0xFF, 0xA0), (0x7F, 0x61), (0x00, 0x23), (0xFF, 0xA0), (0xFF, 0xA0)] := by decide
/-- V35 to V39. -/
theorem test_cmp :
    [aluCase 0xC9 0x40 0x40 false, aluCase 0xC9 0x40 0x41 false, aluCase 0xC9 0x41 0x40 false,
      aluCase 0xC9 0x00 0xFF false, aluCase 0xC9 0x80 0x00 false]
    = [(0x40, 0x23), (0x40, 0xA0), (0x41, 0x21), (0x00, 0x20), (0x80, 0xA1)] := by decide
/-- V39a, V39b. -/
theorem test_cpx : (ran ((start [0xE0, 0x20]).setX 0x10)).cpu.p = 0xA0 := by decide
theorem test_cpy : (ran ((start [0xC0, 0xFF]).setY 0xFF)).cpu.p = 0x23 := by decide

/-- V40, V41: the page crossing costs one more cycle. -/
theorem test_lda_abx :
    (let t := ran (poke ((start [0xBD, 0xFF, 0x02]).setX 1) [(0x0300, 0x56)]); (t.cpu.a, cost t)) = (0x56, 5)
    ∧ (let t := ran (poke ((start [0xBD, 0xF8, 0x02]).setX 1) [(0x02F9, 0x56)]); (t.cpu.a, cost t)) = (0x56, 4) := by
  decide
/-- V44, V45: the pointer wraps in the zero page; the indexed sum crosses a page. -/
theorem test_lda_indirect :
    (let t := ran (poke (start [0xA1, 0xFF]) [(0x00FF, 0x00), (0x0000, 0x03), (0x0300, 0x77)]); (t.cpu.a, t.cpu.p, cost t))
      = (0x77, 0x20, 6)
    ∧ (let t := ran (poke ((start [0xB1, 0x10]).setY 0x10) [(0x0010, 0xF8), (0x0011, 0x02), (0x0308, 0x77)]);
        (t.cpu.a, cost t)) = (0x77, 6) := by decide
/-- V48, V49d's flags by the rule's own example (R152). -/
theorem test_ldy :
    (let t := ran (poke ((start [0xB4, 0x80]).setX 0xFF) [(0x007F, 0x01)]); (t.cpu.y, cost t)) = (0x01, 4)
    ∧ (let t := ran (start [0xA0, 0x00]); (t.cpu.y, t.cpu.p)) = (0x00, 0x22) := by decide
/-- V49, V49a. -/
theorem test_ldx :
    (let t := ran (poke ((start [0xB6, 0xFF]).setY 1) [(0x0000, 0x55)]); (t.cpu.x, cost t)) = (0x55, 4)
    ∧ (let t := ran (poke ((start [0xBE, 0xFF, 0x02]).setY 1) [(0x0300, 0x80)]); (t.cpu.x, t.cpu.p, cost t))
      = (0x80, 0xA0, 5) := by decide
/-- V42, V46: a store never takes the extra cycle. -/
theorem test_sta :
    (let t := ran (((start [0x9D, 0xF8, 0x02]).setA 0x42).setX 0x10); (t.cpuPeek 0x0308, cost t)) = (0x42, 5)
    ∧ (let t := ran (poke (((start [0x91, 0x10]).setA 0x42).setY 0x10) [(0x0010, 0xF8), (0x0011, 0x02)]);
        (t.cpuPeek 0x0308, cost t)) = (0x42, 6) := by decide
/-- R154's example; V5. -/
theorem test_stx : (let t := ran ((start [0x86, 0x00]).setX 0x0A); (t.cpuPeek 0x0000, t.cpu.pc)) = (0x0A, 0x8002) := by
  decide
theorem test_sty :
    [0x0000, 0x0800, 0x1000, 0x1800].map (ran ((start [0x8C, 0x00, 0x08]).setY 0x99)).cpuPeek
      = [0x99, 0x99, 0x99, 0x99] := by decide

/-- V73 to V73c. -/
theorem test_transfers :
    (let t := ran ((start [0xAA]).setA 0x80); (t.cpu.x, t.cpu.p)) = (0x80, 0xA0)
    ∧ (let t := ran (((start [0x9A]).setX 0x00).setP 0xA0); (t.cpu.sp, t.cpu.p)) = (0x00, 0xA0)
    ∧ (let t := ran ((start [0xBA]).setSp 0x00); (t.cpu.x, t.cpu.p)) = (0x00, 0x22)
    ∧ (let t := ran (((start [0x98]).setY 0x7F).setP 0xA2); (t.cpu.a, t.cpu.p)) = (0x7F, 0x20) := by decide
/-- The examples of R161 and R162. -/
theorem test_tay_txa :
    (let t := ran ((start [0xA8]).setA 0xFF); (t.cpu.y, t.cpu.p)) = (0xFF, 0xA0)
    ∧ (let t := ran ((start [0x8A]).setX 0x7F); (t.cpu.a, t.cpu.p)) = (0x7F, 0x20) := by decide
/-- V73d, V73e. -/
theorem test_pha_pla :
    (let t := ran (((start [0x48]).setA 0x77).setSp 0x00); (t.cpuPeek 0x0100, t.cpu.sp, cost t)) = (0x77, 0xFF, 3)
    ∧ (let t := ran (poke ((start [0x68]).setSp 0xFF) [(0x0100, 0x00)]); (t.cpu.sp, t.cpu.a, t.cpu.p, cost t))
      = (0x00, 0x00, 0x22, 4) := by decide
/-- V73f. -/
theorem test_php :
    (let t := ran (start [0x08]); (t.cpuPeek 0x01FD, t.cpu.sp, t.cpu.p, cost t)) = (0x30, 0xFC, 0x20, 3) := by decide
/-- V73g, V73h. -/
theorem test_plp :
    (let t := ran (poke ((start [0x28]).setSp 0xFC) [(0x01FD, 0xFF)]); (t.cpu.p, t.cpu.sp, cost t)) = (0xEF, 0xFD, 4)
    ∧ (ran (poke ((start [0x28]).setSp 0xFC) [(0x01FD, 0x00)])).cpu.p = 0x20 := by decide

/-- V55 to V58. -/
theorem test_logic :
    (let t := ran ((start [0x29, 0x0F]).setA 0xF0); (t.cpu.a, t.cpu.p)) = (0x00, 0x22)
    ∧ (let t := ran ((start [0x09, 0x0F]).setA 0xF0); (t.cpu.a, t.cpu.p)) = (0xFF, 0xA0)
    ∧ (let t := ran ((start [0x49, 0xFF]).setA 0xFF); (t.cpu.a, t.cpu.p)) = (0x00, 0x22)
    ∧ (let t := ran (((start [0x49, 0xF0]).setA 0x0F).setP 0x63); (t.cpu.a, t.cpu.p)) = (0xFF, 0xE1) := by decide
/-- V59, V60. -/
theorem test_bit :
    (let t := ran (poke ((start [0x24, 0x10]).setA 0x01) [(0x0010, 0xC0)]); (t.cpu.a, t.cpu.p, cost t)) = (0x01, 0xE2, 3)
    ∧ (ran (poke (((start [0x24, 0x10]).setA 0xFF).setP 0xE0) [(0x0010, 0x3F)])).cpu.p = 0x20 := by decide

/-- V61, V66, V62, V63, V64, V65. -/
theorem test_shifts_acc :
    [ran ((start [0x0A]).setA 0x81), ran ((start [0x0A]).setA 0x80), ran ((start [0x4A]).setA 0x03),
      ran (((start [0x2A]).setA 0x80).setP 0x21), ran ((start [0x6A]).setA 0x01),
      ran (((start [0x6A]).setA 0x00).setP 0x21)].map (fun t => (t.cpu.a, t.cpu.p, cost t))
    = [(0x02, 0x21, 2), (0x00, 0x23, 2), (0x01, 0x21, 2), (0x01, 0x21, 2), (0x00, 0x23, 2), (0x80, 0xA0, 2)] := by decide
/-- V67, V68. -/
theorem test_shifts_mem :
    (let t := ran (poke (start [0x1E, 0x10, 0x00]) [(0x0010, 0x40)]); (t.cpuPeek 0x0010, t.cpu.p, cost t)) = (0x80, 0xA0, 7)
    ∧ (let t := ran (poke ((start [0x66, 0x10]).setP 0x21) [(0x0010, 0x01)]); (t.cpuPeek 0x0010, t.cpu.p, cost t))
      = (0x80, 0xA1, 5) := by decide
/-- V49b, V72, V71. -/
theorem test_inc_dec :
    (let t := ran (poke ((start [0xFE, 0xFF, 0x02]).setX 1) [(0x0300, 0xFF)]); (t.cpuPeek 0x0300, t.cpu.p, cost t))
      = (0x00, 0x22, 7)
    ∧ (let t := ran (poke (start [0xE6, 0x10]) [(0x0010, 0x7F)]); (t.cpuPeek 0x0010, t.cpu.p, cost t)) = (0x80, 0xA0, 5)
    ∧ (let t := ran (start [0xC6, 0x10]); (t.cpuPeek 0x0010, t.cpu.p, cost t)) = (0xFF, 0xA0, 5) := by decide
/-- V69, V70. -/
theorem test_inx_dey :
    (let t := ran ((start [0xE8]).setX 0xFF); (t.cpu.x, t.cpu.p)) = (0x00, 0x22)
    ∧ (let t := ran (start [0x88]); (t.cpu.y, t.cpu.p)) = (0xFF, 0xA0) := by decide

/-- V75, V4. -/
theorem test_jmp :
    (let t := ran (start [0x4C, 0x34, 0x12]); (t.cpu.pc, cost t)) = (0x1234, 3)
    ∧ (let t := ran (poke (start [0x6C, 0xFF, 0x02]) [(0x02FF, 0x34), (0x0300, 0x12), (0x0200, 0x56)]); (t.cpu.pc, cost t))
      = (0x5634, 5) := by decide
/-- V76. -/
theorem test_jsr :
    (let t := ran (start [0x20, 0x34, 0x92]); (t.cpu.pc, t.cpuPeek 0x01FD, t.cpuPeek 0x01FC, t.cpu.sp, cost t))
      = (0x9234, 0x80, 0x02, 0xFB, 6) := by decide
/-- V77. -/
theorem test_rts :
    (let t := ran (poke ((start [0x60]).setSp 0xFE) [(0x01FF, 0xFF), (0x0100, 0x12)]); (t.cpu.pc, t.cpu.sp, cost t))
      = (0x1300, 0x00, 6) := by decide

/-- A branch at an address, on a status. -/
def branchCase (op r : Byte) (at_ : Addr) (p : Byte) : Addr × Nat :=
  let t := next (exec (match op with | 0xD0 => .bne r | 0xF0 => .beq r | _ => .bpl r) (((start []).setPc (at_ + 2)).setP p))
    (start [])
  (t.cpu.pc, t.cpu.cycles)

/-- V50 to V54. -/
theorem test_branches :
    [branchCase 0xD0 0x02 0x80FC 0x20, branchCase 0xD0 0x7F 0x8080 0x20, branchCase 0xF0 0x10 0x8000 0x20,
      branchCase 0x10 0xFC 0x8000 0x20, branchCase 0xD0 0xFD 0x8005 0x20]
    = [(0x8100, 4), (0x8101, 4), (0x8002, 2), (0x7FFE, 4), (0x8004, 3)] := by decide
/-- The other branches of R227 to R234, each taken. -/
theorem test_branches_taken :
    [(Instr.bcc 2, (0x20 : Byte)), (.bcs 2, 0x21), (.beq 2, 0x22), (.bmi 2, 0xA0), (.bvc 2, 0x20), (.bvs 2, 0x60)].map
      (fun c => (next (exec c.1 ((start []).setP c.2)) (start [])).cpu.pc)
    = [0x8002, 0x8002, 0x8002, 0x8002, 0x8002, 0x8002] := by decide

/-- V78, V79, one instruction at a time. -/
theorem test_flag_instructions :
    [Instr.clc, .cli, .clv, .cld].map (fun i => (next (exec i ((start []).setP 0xFF)) (start [])).cpu.p)
      = [0xFE, 0xFB, 0xBF, 0xF7]
    ∧ [Instr.sec, .sei, .sed].map (fun i => (next (exec i ((start []).setP 0x20)) (start [])).cpu.p)
      = [0x21, 0x24, 0x28] := by decide
/-- V80, V81, V82: an illegal opcode is one byte long. -/
theorem test_nop_illegal :
    (let t := ran (start [0x02]); (t.cpu.pc, t.cpu.p, cost t)) = (0x8001, 0x20, 2)
    ∧ (let t := ran (start [0x80, 0x55]); (t.cpu.pc, cost t)) = (0x8001, 2)
    ∧ (let t := ran (start [0xEA]); (t.cpu.pc, cost t)) = (0x8001, 2) := by decide
/-- R6, R112: another `ILLEGAL_CYCLES`, which gives 1 to the first illegal byte (02) and 8 to the last (FF), and the default
of the neighbouring bytes. -/
theorem test_illegal_cycles_argument :
    (let q := { Params.default with illegalCycles := (illegalCyclesDefault.set 0 (illegalCyclesDefault[0].set 0 0)).set 6 (illegalCyclesDefault[6].set 14 7) };
      [0x02, 0x03, 0xFC, 0xFF].map (illegalCycles q)) = [1, 8, 4, 8]
    ∧ (let s := { start [0x02] with params := { Params.default with illegalCycles := illegalCyclesDefault.set 0 (illegalCyclesDefault[0].set 0 5) } };
      cost (ran s)) = 6 := by decide

/-! ## Exceptions and reset -/

/-- A PRG memory of two banks with its three vectors. -/
def vectors : Mem := [(0x7FFB, 0xA0), (0x7FFC, 0x34), (0x7FFD, 0xC2), (0x7FFF, 0x90)]

def vectored (s : State) : State := { s with cart := s.cart.map fun c => { c with prg := vectors } }

/-- V83. -/
theorem test_nmi :
    (let t := (((vectored (start [])).setP 0x21).setPc 0x8001).nmi;
      ([0x01FD, 0x01FC, 0x01FB].map t.cpuPeek, t.cpu.sp, t.cpu.p, t.cpu.pc, t.cpu.cycles))
    = ([0x80, 0x01, 0x21], 0xFA, 0x25, 0xA000, 8) := by decide
/-- V83a, V83b. -/
theorem test_irq :
    (let t := (((vectored (start [])).setP 0xE3).setPc 0x8001).irq;
      ([0x01FD, 0x01FC, 0x01FB].map t.cpuPeek, t.cpu.sp, t.cpu.p, t.cpu.pc, t.cpu.cycles))
      = ([0x80, 0x01, 0xE3], 0xFA, 0xE7, 0x9000, 7)
    ∧ (let s := (vectored (start [])).setP 0x24; s.irq = s) := by decide
/-- V83c. -/
theorem test_brk :
    (let t := next (exec .brk ((vectored (start [])).setPc 0x8001)) (start []);
      ([0x01FD, 0x01FC, 0x01FB].map t.cpuPeek, t.cpu.sp, t.cpu.p, t.cpu.pc, t.cpu.cycles))
    = ([0x80, 0x02, 0x30], 0xFA, 0x24, 0x9000, 7) := by decide
/-- V83d. -/
theorem test_rti :
    (let t := ran (poke ((start [0x40]).setSp 0xFA) [(0x01FB, 0x39), (0x01FC, 0x04), (0x01FD, 0x80)]);
      (t.cpu.p, t.cpu.pc, t.cpu.sp, cost t))
    = (0x29, 0x8004, 0xFD, 6) := by decide
/-- V2. -/
theorem test_reset : (vectored (start [])).busReset.cpu
    = { a := 0, x := 0, y := 0, sp := 0xFD, p := 0x20, pc := 0xC234, cycles := 8 } := by decide
/-- V104b, V104c, V104d. -/
theorem test_decode_map :
    (let s := start []; [0x4014, 0x4000, 0x5000, 0x2000].map (fun a => (s.memRead a).val) = [0, 0, 0, 0])
    ∧ (start []).memWrite 0x4017 0xFF = start [] := by decide

/-! ## Picture unit -/

/-- V6. -/
theorem test_register_mirror : (poke (start []) [(0x3FF8, 0x80)]).ppu.ctrl = 0x80 := by decide
/-- V87, V87a. -/
theorem test_ppu_data :
    (let s := poke (start []) [(0x2006, 0x21), (0x2006, 0x08), (0x2007, 0xAB)]; (s.ppu.t, s.ppu.v, s.ppu.w, s.ppu.nt))
      = (0x2108, 0x2109, false, [(0x108, 0xAB)])
    ∧ (let s := poke (start []) [(0x2006, 0x21), (0x2006, 0x08), (0x2007, 0xAB), (0x2006, 0x21), (0x2006, 0x08)];
        let r := s.memRead 0x2007; let q := r.st.memRead 0x2007;
        (r.val, r.st.ppu.dataBuf, r.st.ppu.v, q.val, q.st.ppu.v)) = (0x00, 0xAB, 0x2109, 0xAB, 0x210A) := by decide
/-- V87c, V87d, V87e: which byte of nametable RAM a PPU address is. -/
theorem test_mirroring :
    [ntIndex .vertical 0x2400, ntIndex .horizontal 0x2400, ntIndex .vertical 0x2800, ntIndex .horizontal 0x2800]
      = [0x400, 0x000, 0x000, 0x400]
    ∧ ntIndex .vertical 0x3000 = ntIndex .vertical 0x2000 := by decide
/-- V87f, V87g. -/
theorem test_palette :
    (let s := poke (start []) [(0x2006, 0x3F), (0x2006, 0x10), (0x2007, 0x0F), (0x2006, 0x3F), (0x2006, 0x00)];
      let r := s.memRead 0x2007; (s.ppu.pal, r.val, r.st.ppu.dataBuf)) = ([(0, 0x0F)], 0x0F, 0x0F)
    ∧ (let s := (start []).ppuWrite 0x3F11 0x2A; (s.ppuRead 0x3F31, (poke s [(0x2001, 0x01)]).ppuRead 0x3F31))
      = (0x2A, 0x20) := by decide
/-- R64, D22: the read-only read answers what the read would, the palette byte for a palette address and the buffer
otherwise, and nothing changes. -/
theorem test_data_peek :
    (let s := poke (start []) [(0x2006, 0x3F), (0x2006, 0x00), (0x2007, 0x2A), (0x2006, 0x3F), (0x2006, 0x00)];
      (s.cpuPeek 0x2007, s.ppu.dataBuf, s.ppu.v)) = (0x2A, 0x00, 0x3F00)
    ∧ ({ start [] with ppu := { Ppu.reset with dataBuf := 0x5F, v := 0x2000 } }).cpuPeek 0x3FFF = 0x5F := by decide
/-- V88, V88a, V88b. -/
theorem test_scroll :
    (let s := poke (start []) [(0x2005, 0x7D)]; (s.ppu.fineX, s.ppu.t, s.ppu.w)) = (5, 0x000F, true)
    ∧ (let s := poke (start []) [(0x2005, 0x7D), (0x2005, 0x5E)]; (s.ppu.t, s.ppu.v, s.ppu.w)) = (0x616F, 0, false)
    ∧ (poke (start []) [(0x2005, 0x7D), (0x2005, 0x5E), (0x2000, 0x03)]).ppu.t = 0x6D6F
    ∧ (let s := poke (start []) [(0x2005, 0x7D), (0x2005, 0x5E), (0x2000, 0x03), (0x2006, 0x3F), (0x2006, 0x00)];
        (s.ppu.t, s.ppu.v, s.ppu.w)) = (0x3F00, 0x3F00, false) := by decide
/-- V88e. -/
theorem test_status :
    (let s := { start [] with ppu := { Ppu.reset with vblank := true, overflow := true, dataBuf := 0x5F, w := true } };
      let r := s.memRead 0x2002; (r.val, r.st.ppu.vblank, r.st.ppu.w, r.st.ppu.overflow)) = (0xBF, false, false, true) := by
  decide
/-- V88f. -/
theorem test_oam :
    (let s := poke (start []) [(0x2003, 0x10), (0x2004, 0xAA)]; (s.ppu.oam, s.ppu.oamAddr, (s.memRead 0x2004).val))
    = ([(0x10, 0xAA)], 0x11, 0x00) := by decide
/-- V89, V89a. -/
theorem test_fetch_addresses :
    attributeAddr 0x04C5 = 0x27C9 ∧ { Ppu.reset with ctrl := 0x10, ntByte := 0x24, v := 0x3000 }.patternAddr = 0x1243 := by
  decide
/-- V89b to V89e. -/
theorem test_increments :
    incX 0x001F = 0x0400 ∧ incY 0x73A0 = 0x0800 ∧ incY 0x73E0 = 0x0000 ∧ incY 0x3000 = 0x4000 := by decide
/-- V86, V86a, V86b. -/
theorem test_sprite_flip :
    Ppu.reset.spriteAddr { y := 0, id := 0x12, attr := 0x00, x := 0, lo := 0, hi := 0 } 2 = 0x0122
    ∧ Ppu.reset.spriteAddr { y := 0, id := 0x12, attr := 0x80, x := 0, lo := 0, hi := 0 } 2 = 0x0125
    ∧ { Ppu.reset with ctrl := 0x20 }.spriteAddr { y := 0, id := 0x41, attr := 0x00, x := 0, lo := 0, hi := 0 } 10 = 0x1412
    ∧ { Ppu.reset with ctrl := 0x20 }.spriteAddr { y := 0, id := 0x41, attr := 0x80, x := 0, lo := 0, hi := 0 } 10 = 0x1405
    ∧ [rev8 0x80, rev8 0xC1] = [0x01, 0x83] := by decide
/-- Object memory whose first `n` entries have Y byte 0x20, the others 0xF0. -/
def oamOf (n : Nat) : Mem :=
  (List.range 64).map fun k => (4 * k, if k < n then 0x20 else 0xF0)
/-- V84, V85. -/
theorem test_sprite_overflow :
    (let e := { Ppu.reset with oam := oamOf 9 }.evaluateSprites 0x20; (e.spriteCount, e.zeroPossible, e.overflow))
      = (8, true, true)
    ∧ (let e := { Ppu.reset with oam := oamOf 8 }.evaluateSprites 0x20; (e.spriteCount, e.overflow)) = (8, false) := by
  decide
/-- V85a. -/
theorem test_sprite_range :
    [0x1F, 0x20, 0x27, 0x28].map (fun l => { Ppu.reset with oam := oamOf 1 }.covers l 0) = [false, true, true, false]
    ∧ [0x2F, 0x30].map (fun l => { Ppu.reset with oam := oamOf 1, ctrl := 0x20 }.covers l 0) = [true, false] := by decide
/-- V85b. -/
theorem test_compositing :
    (let bg : Pixel := { px := 2, pal := 1 }; let fg : Pixel := { px := 3, pal := 5 }; let none : Pixel := { px := 0, pal := 0 };
      [combine bg ⟨fg, false, false⟩, combine bg ⟨fg, true, false⟩, combine none ⟨fg, false, false⟩,
        combine none ⟨none, false, false⟩].map Pixel.colourAddr)
    = [0x3F06, 0x3F17, 0x3F17, 0x3F00] := by decide
/-- V85c. -/
theorem test_zero_hit :
    (let hit := fun mask => { Ppu.reset with mask := mask, zeroPossible := true }.zeroHitNow ⟨1, 0⟩ ⟨⟨1, 4⟩, true, true⟩ 5;
      (hit 0x18, hit 0x1E)) = (false, true) := by decide
/-- V85d. -/
theorem test_scanline_dot :
    [(-1, 260, 0x08), (239, 260, 0x08), (240, 260, 0x08), (0, 259, 0x08), (0, 260, 0x00)].map (fun c : Int × Nat × Byte =>
      { Ppu.reset with scanline := c.1, dot := c.2.1, mask := c.2.2 }.scanlineDot) = [true, true, false, false, false] := by
  decide
/-- V89g: at (241, 1) with NMI enabled, one bus step. -/
theorem test_vblank_step :
    (let s := { start [] with ppu := { Ppu.reset with scanline := 241, dot := 1, ctrl := 0x80 } };
      let t := next (step s) s; (t.ppu.vblank, t.ppu.nmi, t.cpu.cycles, t.ppu.dot, t.bus.n)) = (true, false, 8, 2, 1) := by
  decide

/-! ## Audio unit -/

/-- V74 to V74c. -/
theorem test_sweep :
    (let p := fun period shift negate =>
        { Pulse.reset with period := period, sw := { Sweep.reset with shift := shift, negate := negate } };
      ((p 0x100 1 true).sweepTarget true, (p 0x100 1 true).sweepTarget false, (p 0x100 1 false).sweepTarget true,
        (p 0x7FF 0 false).sweepTarget true, (p 0x7FF 0 false).sweepMute true, (p 0x007 0 true).sweepMute false))
    = (0x07F, 0x080, 0x180, 0xFFE, true, true) := by decide
/-- V74d, V74f, V74g, V74h. -/
theorem test_audio_status :
    (let s := poke (start []) [(0x4015, 0x01), (0x4003, 0x08)]; (s.apu.pulse1.length, s.cpuPeek 0x4015)) = (254, 0x01)
    ∧ (let s := poke (start []) [(0x4003, 0x08)]; (s.apu.pulse1.length, s.apu.pulse1.env.start, s.cpuPeek 0x4015))
      = (0, true, 0x00)
    ∧ (let s := poke (start []) [(0x4015, 0x08), (0x400F, 0x00)]; (s.apu.noise.length, s.cpuPeek 0x4015)) = (10, 0x08)
    ∧ (poke (start []) [(0x4015, 0xFF)]).cpuPeek 0x4015 = 0x00 := by decide
/-- V74i, V74j. -/
theorem test_envelope :
    (let e := { Envelope.reset with volume := 3, start := true }.clock false; (e.decay, e.divider)) = (15, 3)
    ∧ (let e := { Envelope.reset with volume := 3, decay := 15 }.clock false; (e.decay, e.divider)) = (14, 3)
    ∧ ((Envelope.reset.clock true).decay, (Envelope.reset.clock false).decay) = (15, 0) := by decide
/-- V74k. -/
theorem test_length : [lengthClock false 2, lengthClock false 1, lengthClock false 0, lengthClock true 2] = [1, 0, 0, 2] := by
  decide
/-- V74m, V74n. -/
theorem test_noise :
    [1, 0x4000, 0x2000, 0x1000, 0x0003].map (fun l => { Noise.reset with lfsr := l }.timerTick.lfsr)
      = [0x4000, 0x2000, 0x1000, 0x0800, 0x0001] := by decide
/-- V74o: all three outputs 15, mixed by the default formula to 0.2997. -/
theorem test_mix :
    (let loud := { Pulse.reset with
        enabled := true, length := 1, seq := 1, period := 8, env := { Envelope.reset with constant := true, volume := 15 } };
      { Apu.reset with pulse1 := loud, pulse2 := loud, noise := { Noise.reset with
        enabled := true, length := 1, lfsr := 2, env := { Envelope.reset with constant := true, volume := 15 } } }.outputSample)
      = { p1 := 15, p2 := 15, n := 15 }
    ∧ apuMixDefault 15 15 15 = 2997 / 10000 := by
  refine ⟨by decide, ?_⟩
  norm_num [apuMixDefault, show (15 : BitVec 4).toNat = 15 from rfl]
/-- R307: `t_step` 2 and `t_sample` 3 from 0, two ticks; and both times one named real: every tick is ready. -/
theorem test_audio_tick :
    (let s := State.reset.hostCall (.setSampleRatio (.whole 2) (.whole 3)); let t := s.audioTick; let u := t.audioTick;
      (t.bus.audioTime.whole, t.bus.sampleReady, u.bus.audioTime.whole, u.bus.sampleReady)) = (2, false, 1, true)
    ∧ (let t := (State.reset.hostCall (.setSampleRatio (.named 7) (.named 7))).audioTick;
      (t.bus.audioTime, t.bus.sampleReady)) = (AudioTime.zero, true) := by decide
/-- R441: the tick that reaches 7457 clocks an envelope and a length, the one that reaches 3729 an envelope alone, and the
one before neither. -/
theorem test_frame_sequencer :
    (let u := fun c => { Apu.reset with frameCtr := c, noise := { Noise.reset with length := 2, env := { Envelope.reset with start := true } } };
      [7456, 3728, 3727, 14915].map fun c => ((u c).clock.noise.length, (u c).clock.noise.env.decay, (u c).clock.frameCtr))
    = [(1, 15, 7457), (2, 15, 3729), (2, 0, 3728), (1, 15, 0)] := by decide
/-- V74p, V74q. -/
theorem test_audio_registers :
    (let p := (poke (start []) [(0x4000, 0xBF)]).apu.pulse1; (p.duty, p.halt, p.env.constant, p.env.volume)) = (2, true, true, 15)
    ∧ (let p := (poke (start []) [(0x4002, 0xFD), (0x4003, 0x02)]).apu.pulse1; (p.period, p.timer, p.seq))
      = (0x2FD, 0x2FD, 0x40) := by decide
/-- V74r: one timer expiry. -/
theorem test_sequencer :
    [0x40, 0x20, 0x01].map (fun q => { Pulse.reset with seq := q }.timerTick.seq) = [0x20, 0x10, 0x80] := by decide

/-! ## Cartridge -/

/-- V90, V91, V91a. -/
theorem test_image_header :
    (Cart.build [] [0x4E, 0x45, 0x53, 0x1A, 0x02, 0x01, 0x31, 0, 0, 0, 0, 0, 0, 0, 0, 0, 0x99]).map
      (fun c => (c.prgBanks, c.chrBanks, c.mapperId, c.hwMirror, c.prg.length)) = some (2, 1, 3, .vertical, 1) := by decide
theorem test_image_header_ram :
    (Cart.build [] [0, 0, 0, 0, 0x08, 0x00, 0x44, 0x00]).map (fun c => (c.chrIsRam, c.mapperId, c.hwMirror))
      = some (true, 4, .horizontal)
    ∧ Cart.build [] [0, 0, 0, 0, 0x08, 0x00, 0x10, 0x40] = none := by decide
/-- V92, V93, V93a. -/
theorem test_variant0 :
    offsets (mapperCart 1 .v0) [0x8000, 0xC000, 0xFFFC, 0x6000] = [.offset 0, .offset 0, .offset 0x3FFC, .notClaimed]
    ∧ offsets (mapperCart 2 .v0) [0xC000, 0xFFFC] = [.offset 0x4000, .offset 0x7FFC]
    ∧ (withCart (mapperCart 2 .v0)).memWrite 0x8000 0x55 = withCart (mapperCart 2 .v0) := by decide
/-- V94, V95, V95a. -/
theorem test_variant2 :
    offsets (mapperCart 8 (Mapper.reset 8 (.v2 ⟨0, 0⟩))) [0x8000, 0xC000] = [.offset 0, .offset 0x1C000]
    ∧ offsets ((mapperCart 8 (.v2 ⟨0, 7⟩)).cpuWrite 0x8000 0x05).cart [0x8000, 0xBFFF, 0xC000]
      = [.offset 0x14000, .offset 0x17FFF, .offset 0x1C000]
    ∧ ((mapperCart 8 (.v2 ⟨0, 7⟩)).cpuWrite 0xFFFF 0xF5).cart.mapper = .v2 ⟨5, 7⟩ := by decide
/-- V96, V96a. -/
theorem test_variant3 :
    ((mapperCart 2 (.v3 ⟨0⟩)).cpuWrite 0x8000 0x02).cart.chrOffset 0x1234 = 0x5234
    ∧ ((mapperCart 2 (.v3 ⟨0⟩)).cpuWrite 0x8000 0x07).cart.mapper = .v3 ⟨3⟩ := by decide
/-- V97, V98e. -/
theorem test_variant1_banks :
    offsets (mapperCart 8 (.v1 reg1)) [0x8000, 0xC000] = [.offset 0, .offset 0x1C000]
    ∧ (Mapper.v1 reg1).getMirror = .onescreenLo
    ∧ offsets (mapperCart 8 (.v1 (({ reg1 with control := 0x10 }).commit 8 3 0x0B))) [0x8000, 0xC000]
      = [.offset 0x28000, .offset 0x2C000] := by decide
/-- V98, V98a. -/
theorem test_variant1_serial :
    (let w := fun (m : Mapper1) d => m.serialWrite 8 0xE000 d;
      let l := [1, 0, 1, 0, 0].foldl (fun acc d => acc ++ [w (acc.getLastD reg1) d]) [];
      l.map (fun m => (m.load, m.count, m.prgLo)))
      = [(0x10, 1, 0), (0x08, 2, 0), (0x14, 3, 0), (0x0A, 4, 0), (0x00, 0, 5)]
    ∧ (let m := (reg1.serialWrite 8 0x8000 1).serialWrite 8 0x8000 0x80; (m.load, m.count, m.control)) = (0, 0, 0x1C) := by
  decide
/-- V98b, V98c, V98d. -/
theorem test_variant1_chr :
    (Mapper.v1 (reg1.commit 8 0 0x0E)).getMirror = .vertical
    ∧ (({ reg1 with control := 0x0C }).commit 8 1 0x07).chrOffset false 0x1234 = 0x7234
    ∧ ({ reg1 with chrLo := 3, chrHi := 5 }.chrOffset false 0x0234, { reg1 with chrLo := 3, chrHi := 5 }.chrOffset false 0x1234)
      = (0x3234, 0x5234) := by decide
/-- V98f. -/
theorem test_cartridge_ram :
    (let s := poke (withCart (mapperCart 8 (.v1 reg1))) [(0x6000, 0x5A)]; (s.cpuPeek 0x6000, s.cpuPeek 0x7FFF)) = (0x5A, 0x00) := by
  decide
/-- V99, V100. -/
theorem test_variant4_prg :
    offsets (mapperCart 8 (.v4 reg4)) [0x8000, 0xA000, 0xC000, 0xE000, 0xFFFC]
      = [.offset 0, .offset 0x2000, .offset 0x1C000, .offset 0x1E000, .offset 0x1FFFC]
    ∧ offsets (mapperCart 8 (.v4 ((reg4.registerWrite 0x8000 0x46).registerWrite 0x8001 0x03))) [0x8000, 0xC000, 0xA000, 0xE000]
      = [.offset 0x1C000, .offset 0x6000, .offset 0x2000, .offset 0x1E000] := by decide
/-- V101, V101a, V102. -/
theorem test_variant4_chr :
    (let m := (reg4.registerWrite 0x8000 0x80).registerWrite 0x8001 0x0A;
      [4, 5, 0].map (fun k => m.chrBank k * 0x400)) = [0x2800, 0x2C00, 0x1000]
    ∧ (List.range 8).map reg4.chrBank = List.range 8
    ∧ ((reg4.registerWrite 0xA000 1).mirror, (reg4.registerWrite 0xA000 0).mirror) = (.horizontal, .vertical) := by decide
/-- V103, V103a, V103b. -/
theorem test_variant4_irq :
    (let m := ((reg4.registerWrite 0xC000 3).registerWrite 0xC001 0).registerWrite 0xE001 0;
      [1, 2, 3, 4].map (fun k => ((Mapper4.scanline^[k] m).irqCounter, (Mapper4.scanline^[k] m).irqActive)))
      = [(3, false), (2, false), (1, false), (0, true)]
    ∧ ({ reg4 with irqEnable := true }.scanline).irqActive = true
    ∧ (let m := { reg4 with irqEnable := true, irqActive := true }.registerWrite 0xE000 0; (m.irqEnable, m.irqActive))
      = (false, false) := by decide
/-- V104, V104a: the first, third and ninth reads of port 0, the eighth of port 1. -/
theorem test_controllers :
    (let s := poke { start [] with bus := { Bus.reset with padIn0 := 0xA5, padIn1 := 0x01 } } [(0x4016, 0x00)];
      ((s.memRead 0x4016).val, ((readTimes 0x4016 2 s).memRead 0x4016).val, ((readTimes 0x4016 8 s).memRead 0x4016).val,
        ((readTimes 0x4017 7 s).memRead 0x4017).val)) = (1, 1, 0, 1) := by decide

/-! ## Memories stay canonical; the host's entry points -/

/-- R6, R475, D62: the arguments `APU_RESET` and `CART_RAM_INIT` are what a reset and a loaded image take. -/
theorem test_arguments :
    (let s := { start [] with params := { Params.default with
        apuReset := { Apu.reset with frameCtr := 7 }, cartRamInit := [(0x1FFF, 0x5A)] } };
      (s.hostCall .reset).apu.frameCtr = 7
      ∧ (s.hostCall (.loadImage (some [0, 0, 0, 0, 1, 0, 0x10, 0]))).cpuPeek 0x7FFF = 0x5A) := by decide

theorem test_write_zero_unlists : (poke (start []) [(0x0010, 0x42), (0x0010, 0x00)]).bus.ram = [] := by decide
theorem test_load_bad_image : ((start []).hostCall (.loadImage (some [0, 0, 0, 0, 1, 0, 0x50, 0]))).cart = none := by decide
/-- `withFetchWord` right after reset: the next step runs the word. -/
theorem test_withFetchWord :
    (let s := State.reset.withFetchWord 16 0x42A9; (next (step s) s).cpu.a) = 0x42 := by decide

/-! ## States and operands that meet the hypotheses of the obligations -/

theorem test_witness_DecodeOfEncode : (Instr.ldaAbs 0xFFFF).wellFormed = true := rfl
theorem test_witness_EncodeOfDecode : decode [0x6C, 0xFF, 0x02, 0x00] = .ok (.jmpInd 0x02FF, [0x00]) := rfl
theorem test_witness_DecoderIsTotal : decode [0xA9, 0x00] = .ok (.ldaImm 0x00, []) ∧ decode [0xA9, 0xFF, 0x01] = .ok (.ldaImm 0xFF, [0x01]) :=
  ⟨rfl, rfl⟩
theorem test_witness_LoadsWriteTheirRegister :
    (Instr.ldaIzy 0xFF).line.mnem = .lda ∧ (Instr.ldxZpy 0xFF).line.mnem = .ldx ∧ (Instr.ldyImm 0x00).line.mnem = .ldy :=
  ⟨rfl, rfl, rfl⟩
theorem test_witness_StoresWriteTheByte :
    (Instr.staIzx 0xFF).line.mnem = .sta ∧ (Instr.stxZpy 0x00).line.mnem = .stx ∧ (Instr.styAbs 0x4016).line.mnem = .sty :=
  ⟨rfl, rfl, rfl⟩
theorem test_witness_LogicCombinesWithA :
    (Instr.andImm 0x00).line.mnem = .and ∧ (Instr.oraAbx 0xFFFF).line.mnem = .ora ∧ (Instr.eorIzy 0xFF).line.mnem = .eor :=
  ⟨rfl, rfl, rfl⟩
theorem test_witness_BitTestsTheOperand : (Instr.bitAbs 0x2002).line.mnem = .bit := rfl
theorem test_witness_AddWithCarrySums : (Instr.adcImm 0xFF).line.mnem = .adc := rfl
theorem test_witness_SubtractWithBorrow : (Instr.sbcImm 0xFF).line.mnem = .sbc := rfl
theorem test_witness_ComparesSetFlags :
    (Instr.cmpAby 0xFFFF).line.mnem = .cmp ∧ (Instr.cpxImm 0x00).line.mnem = .cpx ∧ (Instr.cpyAbs 0x0000).line.mnem = .cpy :=
  ⟨rfl, rfl, rfl⟩
theorem test_witness_IncrementsAndDecrements :
    (Instr.incAbx 0xFFFF).line.mnem = .inc ∧ (Instr.decZpx 0xFF).line.mnem = .dec := ⟨rfl, rfl⟩
theorem test_witness_ShiftsAndRotates :
    [Instr.aslAcc, .lsrAcc, .rolAbx 0xFFFF, .rorZp0 0x00].all (fun i => [Mnem.asl, .lsr, .rol, .ror].contains i.line.mnem) = true := by
  decide
theorem test_witness_NopAndIllegalChangeNothing : (∃ op, Instr.ill02.line.mnem = .ill op) ∧ ∃ op, Instr.illFF.line.mnem = .ill op :=
  ⟨⟨_, rfl⟩, ⟨_, rfl⟩⟩
theorem test_witness_ReadsHaveOnlyTheListedEffects :
    [0x1FFF, 0x2001, 0x4000, 0x4015, 0x4018, 0xFFFF].map readHasEffect = [false, false, false, false, false, false]
    ∧ [0x2002, 0x3FFF, 0x4016, 0x4017].map readHasEffect = [true, true, true, true] := by decide
theorem test_witness_MirroredAddresses :
    (0x7FF < 0x800 ∧ 0 < 4 ∧ 3 < 4) ∧ (0x2000 ≤ (0x3FFF : Addr).toNat ∧ (0x3FFF : Addr).toNat < 0x4000) := by decide
theorem test_witness_UnmatchedAddressesReadZero :
    (0x4018 ≤ (0x5FFF : Addr).toNat ∧ (0x5FFF : Addr).toNat < 0x6000)
    ∧ (∀ c, (withCart (mapperCart 2 .v0)).cart = some c → c.mapper.variant ∉ [1, 4])
    ∧ (0x4018 ≤ (0xFFFF : Addr).toNat ∧ State.reset.cart = none)
    ∧ (0x4000 ≤ (0x4014 : Addr).toNat ∧ (0x4014 : Addr).toNat ≤ 0x4014)
    ∧ (0x4017 : Addr).toNat ∈ [0x4008, 0x4009, 0x400A, 0x400B, 0x400D, 0x4010, 0x4011, 0x4012, 0x4013, 0x4017] := by
  refine ⟨by decide, fun c h => ?_, by decide, by decide, by decide⟩
  cases h
  decide
theorem test_witness_WritesChangeOnlyTheirTarget :
    mayChange 0x07FF 0x1FFF ∧ ¬mayChange 0x07FF 0x0000 ∧ ¬mayChange 0x2000 0x1FFF ∧ ¬mayChange 0x4018 0x4017
    ∧ ¬mayChange 0x7FFF 0x8000 ∧ mayChange 0x8000 0xFFFF
    ∧ ∃ c, (withCart (mapperCart 2 (.v1 reg1))).cart = some c ∧ c.mapper.variant ∈ [1, 4] := by
  unfold mayChange
  exact ⟨by decide, by decide, by decide, by decide, by decide, by decide, _, rfl, by decide⟩
theorem test_witness_InstructionMemoryFrame :
    (∃ t, exec (.staAbs 0x0200) (start []) = .next t) ∧ storedTo (.staAbs 0x0200) (start []) = [0x0200]
    ∧ storedTo .brk (start []) = [0x01FD, 0x01FC, 0x01FB] ∧ storedTo (.ldaAbs 0x2002) (start []) = [] :=
  ⟨⟨_, rfl⟩, by decide, by decide, by decide⟩
theorem test_witness_InstructionRegisterFrame :
    (∃ t, exec .nop (start []) = .next t) ∧ writesA .nop = false ∧ writesA .aslAcc = true ∧ writesA (.aslZp0 0) = false
    ∧ flagB (start []).cpu.p = false ∧ flagU (start []).cpu.p = true := ⟨⟨_, rfl⟩, by decide⟩
theorem test_witness_CartridgeStorageIsKept :
    (∃ t, step (start [0xEA]) = .next t) ∧ ∃ c, (start [0xEA]).cart = some c ∧ c.chrIsRam = false :=
  ⟨⟨_, rfl⟩, _, rfl, by decide⟩
theorem test_witness_InterruptEntry : flagI (start []).cpu.p = false ∧ flagI ((start []).setP 0x24).cpu.p = true := by decide
theorem test_witness_MaskedIrqIsLost :
    (∃ c, (withCart (mapperCart 2 (.v4 { reg4 with irqActive := true }))).cart = some c ∧ c.irqState = true)
    ∧ ∃ t, step (withCart (mapperCart 2 (.v4 { reg4 with irqActive := true }))) = .next t :=
  ⟨⟨_, rfl, by decide⟩, _, rfl⟩
theorem test_witness_VblankDeliversNmi :
    (let s := { start [] with ppu := { Ppu.reset with scanline := 241, dot := 1, ctrl := 0x80 } };
      s.ppu.scanline = 241 ∧ s.ppu.dot = 1 ∧ s.ppu.ctrl.getLsbD 7 = true) := by decide
theorem test_witness_ResetGivesFixedValues :
    [Mapper.v0, .v1 reg1, .v2 ⟨0, 0⟩, .v3 ⟨0⟩, .v4 reg4].all (fun m => (withCart (mapperCart 1 m)).cart.isSome) = true := by
  decide
theorem test_witness_ReturnsUndoEntries : flagB (start []).cpu.p = false ∧ flagU (start []).cpu.p = true := by decide
theorem test_witness_StepRunsDecodedInstruction :
    (let u := (start [0x8D, 0x00, 0x02]).beforeSlot;
      u.bus.n % 3 = 0 ∧ u.bus.dmaArmed = false ∧ u.cpu.cycles = 0
        ∧ (takeBytes (Instr.staAbs 0x0200).length u).1 = [0x8D, 0x00, 0x02]
        ∧ (List.range 3).all (fun k => !readHasEffect (BitVec.ofNat 16 (u.cpu.pc.toNat + k))) = true)
    ∧ decode [0x8D, 0x00, 0x02] = .ok (.staAbs 0x0200, []) := ⟨by decide, rfl⟩
theorem test_witness_InstructionOccupiesItsCycles :
    (start [0xEA]).cpu.cycles = 0 ∧ ∃ t, exec .nop (start [0xEA]).fetch.st = .next t ∧ 1 ≤ t.cpu.cycles :=
  ⟨rfl, _, rfl, by decide⟩
theorem test_witness_InstructionOccupiesItsCycles_legal : ∀ op, (start [0xEA]).fetch.instr.line.mnem ≠ .ill op := by
  intro op h
  cases h
theorem test_witness_DmaSlot :
    (let b := (poke (start []) [(0x4014, 0x02)]).bus;
      b.n % 3 = 0 ∧ b.dmaArmed = true ∧ b.dmaDummy = true ∧ { b with dmaDummy := false }.n % 2 = 0
        ∧ { b with n := 3 }.n % 2 = 1 ∧ { b with n := 3 }.n % 3 = 0) := by decide
theorem test_witness_DmaCopiesThePage :
    (let s := poke (start []) [(0x4014, 0x02)];
      s.bus.n % 3 = 0 ∧ s.bus.dmaArmed = true ∧ s.bus.dmaDummy = true ∧ s.bus.dmaAddr = 0 ∧ s.bus.dmaPage.toNat < 0x20)
    ∧ NoInterrupts (poke (start []) [(0x4014, 0x02)]) := by
  refine ⟨by decide, by decide, by decide, fun c m h hm => ?_⟩
  have : c.mapper = .v0 := by cases h; rfl
  rw [this] at hm
  cases hm
/-- The first slot odd and a page above device space; reached by the write that arms the transfer. -/
theorem test_witness_DmaCopiesThePage_odd :
    (let s := poke { start [] with bus := { Bus.reset with n := 3 } } [(0x4014, 0x41)];
      s.bus.n % 3 = 0 ∧ s.bus.n % 2 = 1 ∧ s.bus.dmaArmed = true ∧ s.bus.dmaDummy = true ∧ s.bus.dmaAddr = 0
        ∧ 0x41 ≤ s.bus.dmaPage.toNat)
    ∧ NoInterrupts (poke { start [] with bus := { Bus.reset with n := 3 } } [(0x4014, 0x41)]) := by
  refine ⟨by decide, by decide, by decide, fun c m h hm => ?_⟩
  have : c.mapper = .v0 := by cases h; rfl
  rw [this] at hm
  cases hm
theorem test_witness_ResetMeetsInvariant :
    Params.default.Inv ∧ { Params.default with cartRamInit := [(0, 1), (8191, 0xFF)] }.Inv
    ∧ Mem.wf 2048 [(0, 1), (2047, 0xFF)] ∧ Mem.wf 32 [(31, 0x3F)] :=
  ⟨⟨by decide, by decide, by decide, by decide⟩, ⟨by decide, by decide, by decide, by decide⟩, by decide, by decide⟩
theorem test_witness_StepKeepsInvariant : (start [0xEA]).Inv ∧ ∃ t, step (start [0xEA]) = .next t := by
  refine ⟨?_, _, rfl⟩
  have cart : ∀ c, (start [0xEA]).cart = some c → c.Inv := by
    intro c h
    cases h
    exact ⟨⟨by decide, by decide⟩, ⟨by decide, by decide⟩, trivial, by decide⟩
  exact ⟨by decide, by decide, by decide, by decide, by decide, by decide, by decide, by decide, cart, by decide, by decide,
    by decide, by decide, by decide, by decide, by decide, by decide, by decide, by decide, by decide,
    test_witness_ResetMeetsInvariant.1⟩
theorem test_witness_HostCallsKeepInvariant :
    (mapperCart 0 .v0).Inv ∧ ∃ c, Mem.wf 8192 [(0x1FFF, 1)] ∧ Cart.build [(0x1FFF, 1)] [0, 0, 0, 0, 1, 1, 0x10, 0] = some c :=
  ⟨⟨⟨by decide, by decide⟩, ⟨by decide, by decide⟩, trivial, by decide⟩, _, by decide, rfl⟩
theorem test_witness_StatusRegister :
    [0x2002, 0x3FFA].all (fun a : Nat => 0x2000 ≤ a && a < 0x4000 && a % 8 == 2) = true := by decide
theorem test_witness_ScrollAndAddressWrites : (start []).ppu.w = false ∧ (poke (start []) [(0x2005, 0)]).ppu.w = true
    ∧ [0x2000, 0x2006, 0x3FF8, 0x3FFE].all (fun a : Nat => 0x2000 ≤ a && a < 0x4000 && [0, 1, 3, 5, 6].contains (a % 8)) = true := by
  decide
/-- Each clause at the ends of its range: palette, nametable and pattern addresses, CHR not RAM, CHR RAM under variant 4,
no cartridge. -/
theorem test_witness_PpuSpaceReadAfterWrite :
    (0x3F00 ≤ (0x3FFF : BitVec 14).toNat ∧ paletteEntry 0x3F10 = paletteEntry 0x3F00 ∧ paletteEntry 0x3FFF = 0x1F)
    ∧ (0x2000 ≤ (0x3EFF : BitVec 14).toNat ∧ (0x3EFF : BitVec 14).toNat < 0x3F00)
    ∧ (0x1FFF : BitVec 14).toNat < 0x2000
    ∧ (start []).cart.all (fun c => c.chrBanks != 0)
    ∧ (withCart (mapperCart 2 (.v4 reg4))).cart.any (fun c => c.chrBanks == 0 && chrOffsetOf c 0x1FFF == 0x1FFF)
    ∧ State.reset.cart = none := by decide
/-- R355's table, R487: vertical and horizontal by the header, one-screen by variant 1's control. -/
theorem test_quadrants :
    [0x2000, 0x2400, 0x2800, 0x2FFF].map (nametableCell (start [])) = [(0, 0), (1, 0), (0, 0), (1, 0x3FF)]
    ∧ [0x2400, 0x2800].map (nametableCell State.reset) = [(0, 0), (1, 0)]
    ∧ [0x2000, 0x2C01].map (nametableCell (withCart (mapperCart 2 (.v1 { reg1 with control := 0x1D })))) = [(1, 0), (1, 1)] := by
  decide
/-- Two sprites at X 0, the first of them transparent: the second is the first drawn; and none drawn. -/
theorem test_witness_CompositingOfADot :
    (let u := { Ppu.reset with mask := 0x1E, spriteCount := 8, slots := Ppu.reset.slots.set 7 { Slot.zero with lo := 0x80 } };
      u.mask.getLsbD 4 = true ∧ (u.slots[7].hi.getLsbD 7, u.slots[7].lo.getLsbD 7, u.slots[7].x) = (false, true, 0)
        ∧ (List.finRange 7).all (fun j => !(u.slots[j].hi.getLsbD 7 || u.slots[j].lo.getLsbD 7)) = true)
    ∧ Ppu.reset.mask.getLsbD 4 = false ∧ 239 < 240 ∧ 1 ≤ 256 := by decide
/-- A picture unit at a position, with rendering on. -/
def at_ (line : Int) (dot : Nat) : Ppu := { Ppu.reset with scanline := line, dot := dot, mask := 0x18, spriteCount := 8 }
/-- The ends of the windows of R360: fetch sequences, vertical transfers, the picture's lines. -/
theorem test_witness_VblankFlagTiming :
    renders (at_ 0 0) ∧ Fetches (at_ (-1) 8) ∧ Fetches (at_ 239 336) ∧ Fetches (at_ 0 256) ∧ OnLine (at_ 239 257)
    ∧ ((at_ (-1) 280).scanline = -1 ∧ 304 ≤ (at_ (-1) 304).dot)
    ∧ ¬Fetches (at_ 0 1) ∧ ¬Fetches (at_ 0 258) ∧ ¬Fetches (at_ 0 320) ∧ ¬Fetches (at_ 0 338)
    ∧ (OnPicture (at_ 0 257) ∧ OnPicture (at_ 239 257) ∧ ¬OnPicture (at_ (-1) 257) ∧ ¬OnLine (at_ 240 257))
    ∧ ¬renders { Ppu.reset with mask := 0xE7 } := by decide
/-- A sprite at the top of the picture fetched on its last line, 8 and 16 rows high; one selected and one not. -/
theorem test_witness_SpriteEvaluationIsTheLoop :
    ((at_ 7 340).scanline - ((at_ 7 340).slots[0].y.toNat : Int) = 7 ∧ (at_ 15 340).scanline - ((at_ 15 340).slots[7].y.toNat : Int) = 15)
    ∧ (OnPicture (at_ 7 340) ∧ 7 < (at_ 7 340).spriteCount ∧ ¬7 < { at_ 7 340 with spriteCount := 7 }.spriteCount)
    ∧ (at_ 0 2).mask.getLsbD 4 = true ∧ (at_ 0 2).slots[0].x.toNat = 0 ∧ 0 < { Slot.zero with x := 0xFF }.x.toNat := by decide
theorem test_witness_RasterAdvancesOneDotAStep : OnRaster (start [0xEA]) ∧ ∃ t, core.run 1 (start [0xEA]) = .next t :=
  ⟨by unfold OnRaster; decide, _, rfl⟩
theorem test_witness_BankMath : 0x8000 ≤ (0x8000 : Addr).toNat ∧ 0x8000 ≤ (0xFFFF : Addr).toNat ∧ 0 < (mapperCart 1 (.v4 reg4)).prgBanks.toNat := by
  decide
theorem test_witness_SerialRegisterLoad :
    reg1.count = 0 ∧ (∀ k : Fin 5, (0x7F : Byte).getLsbD 7 = false ∧ (0x7F : Byte).getLsbD 0 = (0x1F : BitVec 5).getLsbD k)
    ∧ (0x80 : Byte).getLsbD 7 = true
    ∧ [Mapper.v0, .v1 reg1, .v2 ⟨0, 7⟩, .v3 ⟨0⟩, .v4 reg4].all (fun m => (withCart (mapperCart 2 m)).cart == some (mapperCart 2 m))
    ∧ 0x8000 ≤ (0x8000 : Addr).toNat ∧ 0x8000 ≤ (0xFFFF : Addr).toNat := by decide
/-- R513: the fifth address selects the register, not the first. -/
theorem test_serial_fifth_address :
    (let w := serialWrites reg1 8 (fun k => if k = 4 then 0xE000 else 0x8000) (fun k => if k = 0 ∨ k = 2 then 0x71 else 0x70);
      (w.prgLo, w.control, w.count)) = (5, 0x1C, 0) := by decide
theorem test_witness_ScanlineIrqPeriod :
    (let m := { reg4 with irqEnable := true, irqReload := 0xFF };
      m.irqCounter = 0 ∧ m.irqEnable = true ∧ m.irqActive = false ∧ 0x100 ≤ m.irqReload.toNat + 1) := by decide
theorem test_witness_ScanlineIrqPeriod_call :
    (let s := { withCart (mapperCart 2 (.v4 reg4)) with ppu := at_ 239 260 };
      -1 ≤ s.ppu.scanline ∧ renders s.ppu ∧ OnLine s.ppu ∧ s.ppu.dot = 260 ∧ s.cart = some (mapperCart 2 (.v4 reg4))
        ∧ (mapperCart 2 (.v4 reg4)).mapper = .v4 reg4)
    ∧ (mapperCart 2 (.v2 ⟨0, 7⟩)).mapper.variant ≠ 4 ∧ ¬OnLine (at_ 240 260) ∧ OnLine (at_ (-1) 260) := by decide
theorem test_witness_ImageLayout :
    (4 < (([0, 0, 0, 0, 0, 0, 0x50] : List Byte).getD 6 0).toNat / 16) ∧ ([0, 0, 0, 0, 2, 0] : List Byte).getD 5 0 = 0 := by decide
theorem test_witness_PulseWaveformPeriod :
    (let p := { Pulse.reset with period := 0x7FF, timer := 0x7FF }; p.timer.toNat ≤ p.period.toNat)
    ∧ 0 < { Pulse.reset with timer := 0x7FF }.timer.toNat ∧ Pulse.reset.timer.toNat = 0
    ∧ 0 < { Noise.reset with timer := 0xFFF }.timer.toNat ∧ Noise.reset.timer.toNat = 0 := by decide
theorem test_witness_EnvelopeLengthSweep :
    Envelope.reset.start = false ∧ Envelope.reset.divider = 0 ∧ { Envelope.reset with start := true }.start = true
    ∧ { Envelope.reset with divider := 15 }.divider ≠ 0 := by decide
/-- The first audio tick and the last step before the next; a bus step without a CPU slot. -/
theorem test_witness_EnvelopeLengthSweep_clock :
    (start []).apu.tick6 = 0 ∧ { Apu.reset with tick6 := 5 }.tick6 ≠ 0 ∧ { Bus.reset with n := 1 }.n % 3 ≠ 0
    ∧ { Apu.reset with frameCtr := 14915 }.frameCtr + 1 = 14916 := by decide
/-- A sum that just reaches `t_sample`, here both the same named real, and one that does not. -/
theorem test_witness_EnvelopeLengthSweep_sample :
    (HostReal.named 7).value ≤ AudioTime.zero.value namedReal + (HostReal.named 7).value
    ∧ AudioTime.zero.value namedReal + (HostReal.whole 2).value < (HostReal.whole 3).value := by
  rw [AudioTime.value_zero]
  norm_num [HostReal.value]

end Sys2Proof.Tests
end

/-! Proofs of the state family: the register frame and the cost of every instruction, the fetch as the decoder sees
it, and the machine's invariant. -/

namespace Sys2Proof.Machine

open Sys2Proof.Stated

/-! ## What each operation does to the CPU's registers -/

@[simp] theorem loadA_cpu (v : Byte) (s : State) : (loadA v s).cpu = { s.cpu with a := v, p := setZN v s.cpu.p } := rfl
@[simp] theorem loadX_cpu (v : Byte) (s : State) : (loadX v s).cpu = { s.cpu with x := v, p := setZN v s.cpu.p } := rfl
@[simp] theorem loadY_cpu (v : Byte) (s : State) : (loadY v s).cpu = { s.cpu with y := v, p := setZN v s.cpu.p } := rfl
@[simp] theorem andA_eq (v : Byte) (s : State) : andA v s = loadA (s.cpu.a &&& v) s := rfl
@[simp] theorem orA_eq (v : Byte) (s : State) : orA v s = loadA (s.cpu.a ||| v) s := rfl
@[simp] theorem eorA_eq (v : Byte) (s : State) : eorA v s = loadA (s.cpu.a ^^^ v) s := rfl
@[simp] theorem adcA_cpu (v : Byte) (s : State) :
    let r := addWithCarry s.cpu.a v (flagC s.cpu.p)
    (adcA v s).cpu = { s.cpu with a := r.result, p := sumFlags r s.cpu.p } := rfl
@[simp] theorem sbcA_eq (v : Byte) (s : State) : sbcA v s = adcA (v ^^^ 0xFF) s := rfl
@[simp] theorem compareA_cpu (v : Byte) (s : State) :
    (compareA v s).cpu = { s.cpu with p := compareFlags s.cpu.a v s.cpu.p } := rfl
@[simp] theorem compareX_cpu (v : Byte) (s : State) :
    (compareX v s).cpu = { s.cpu with p := compareFlags s.cpu.x v s.cpu.p } := rfl
@[simp] theorem compareY_cpu (v : Byte) (s : State) :
    (compareY v s).cpu = { s.cpu with p := compareFlags s.cpu.y v s.cpu.p } := rfl
@[simp] theorem bitTest_cpu (v : Byte) (s : State) :
    (bitTest v s).cpu = { s.cpu with p := bitFlags s.cpu.a v s.cpu.p } := rfl

/-! ## What each instruction shape does to the CPU's registers -/

/-- A reading instruction changes the CPU by its operation, from the registers it started with, and takes its base
count or one more. -/
theorem readOp_cpu {base : Nat} {x2 : Bool} {f : Byte → State → State} {m : Mode} {s t : State}
    (h : readOp base x2 f m s = .next t) :
    ∃ v u, u.cpu = { s.cpu with cycles := base } ∧
      ∃ n ≤ 1, t.cpu = { (f v u).cpu with cycles := (f v u).cpu.cycles + n } := by
  cases h
  refine ⟨_, _, State.source_cpu _ _, _, ?_, rfl⟩
  split <;> decide

theorem storeOp_cpu {base : Nat} {reg : Cpu → Byte} {m : MemMode} {s t : State}
    (h : storeOp base reg m s = .next t) : t.cpu = { s.cpu with cycles := base } := by
  cases h
  rw [State.memWrite_cpu, State.locate_cpu]
  rfl

theorem modifyOp_cpu {base : Nat} {f : Byte → Byte → Modified} {m : MemMode} {s t : State}
    (h : modifyOp base f m s = .next t) :
    ∃ v, t.cpu = { s.cpu with p := (f v s.cpu.p).p, cycles := base } := by
  rw [modifyOp_eq] at h
  cases h
  refine ⟨((s.locate m).st.memRead (s.locate m).ea).val, ?_⟩
  simp [State.setP, State.setCycles]

theorem accumulatorOp_cpu {base : Nat} {f : Byte → Byte → Modified} {s t : State}
    (h : accumulatorOp base f s = .next t) :
    t.cpu = { s.cpu with a := (f s.cpu.a s.cpu.p).val, p := (f s.cpu.a s.cpu.p).p, cycles := base } := by
  cases h
  rfl

theorem impliedOp_cpu {base : Nat} {f : State → State} {s t : State} (h : impliedOp base f s = .next t) :
    t.cpu = (f (s.setCycles base)).cpu := by
  cases h
  rfl

theorem jumpTo_cpu {base : Nat} {m : MemMode} {s t : State} (h : jumpTo base m s = .next t) :
    ∃ pc, t.cpu = { s.cpu with pc := pc, cycles := base } := by
  cases h
  refine ⟨((s.setCycles base).locate m).ea, ?_⟩
  rw [State.setPc, State.locate_cpu]
  rfl

theorem callTo_cpu {m : MemMode} {s t : State} (h : callTo m s = .next t) :
    ∃ sp pc, t.cpu = { s.cpu with sp := sp, pc := pc, cycles := 6 } := by
  cases h
  refine ⟨s.cpu.sp - 1 - 1, ((s.setCycles 6).locate m).ea, ?_⟩
  rw [State.pushWord_eq, State.setPc]
  dsimp only
  rw [State.locate_cpu]
  rfl

/-- A branch costs 2, 3 or 4 cycles (R226). -/
theorem branchOp_cpu {c : Byte → Bool} {r : Byte} {s t : State} (h : branchOp c r s = .next t) :
    ∃ pc n, t.cpu = { s.cpu with pc := pc, cycles := n } ∧ 2 ≤ n ∧ n ≤ 4 := by
  unfold branchOp at h
  dsimp only at h
  split at h
  · cases h
    refine ⟨s.cpu.pc + sext16 r, _, rfl, ?_⟩
    split <;> simp
  · cases h
    exact ⟨s.cpu.pc, 2, rfl, by decide, by decide⟩

/-- The read-only path does not depend on `PC`. -/
@[simp] theorem State.cpuPeek_setPc (s : State) (v : Addr) (a : Addr) : (s.setPc v).cpuPeek a = s.cpuPeek a := by
  rw [State.cpuPeek_eq, State.setPc, State.memRead_withCpu]
  rfl

/-- `BRK` from the address after its opcode (R248). -/
theorem breakEntry_cpu (s : State) : (breakEntry s).cpu = { s.cpu with
    sp := s.cpu.sp - 1 - 1 - 1, p := setI true s.cpu.p, pc := joinBytes (s.cpuPeek 0xFFFF) (s.cpuPeek 0xFFFE) } := by
  unfold breakEntry
  rw [State.takeException_eq _ _ (by decide) (by decide), State.cpuPeek_setPc, State.cpuPeek_setPc]
  rfl

/-! ## The register frame -/

/-- The registers of `new` differ from those of `old` only as the tables of 10_state.md R20 and R28 let mnemonic `m`
write them, and `A` only when `wA` holds; live B stays 0 and live U stays 1. -/
structure RegisterFrame (wA : Bool) (m : Mnem) (old new : Cpu) : Prop where
  a  : wA = false → new.a = old.a
  x  : writesX m = false → new.x = old.x
  y  : writesY m = false → new.y = old.y
  sp : writesSP m = false → new.sp = old.sp
  pc : writesPC m = false → new.pc = old.pc
  nz : writesNZ m = false → flagN new.p = flagN old.p ∧ flagZ new.p = flagZ old.p
  v  : writesV m = false → flagV new.p = flagV old.p
  d  : writesD m = false → flagD new.p = flagD old.p
  i  : writesI m = false → flagI new.p = flagI old.p
  c  : writesC m = false → flagC new.p = flagC old.p
  b  : flagB old.p = false → flagB new.p = false
  u  : flagU old.p = true → flagU new.p = true

/-- Every instruction keeps to the register frame of its mnemonic. -/
theorem exec_registerFrame {i : Instr} {s t : State} (h : exec i s = .next t) :
    RegisterFrame (writesA i) i.line.mnem s.cpu t.cpu := by
  have store := i.mode_of_store
  have shift := i.mode_of_shift
  have branch := i.mode_of_branch
  rw [exec_eq_run] at h
  unfold writesA
  generalize i.baseCycles = base at h
  generalize i.line.mnem = mn at *
  generalize i.line.mode = md at *
  cases mn <;> simp only [runLine] at h
  case lda | ldx | ldy | and | ora | eor | adc | sbc | cmp | cpx | cpy | bit =>
    obtain ⟨v, u, hu, n, -, ht⟩ := readOp_cpu h
    rw [ht]
    constructor <;> simp [writesX, writesY, writesSP, writesPC, writesNZ, writesV, writesD, writesI, writesC, hu,
      sumFlags, compareFlags, bitFlags]
  case sta | stx | sty =>
    obtain ⟨m, rfl⟩ := store rfl
    rw [storeOp_cpu h]
    constructor <;> simp
  case inc | dec =>
    obtain ⟨m, rfl⟩ := store rfl
    obtain ⟨v, ht⟩ := modifyOp_cpu h
    rw [ht]
    constructor <;> simp [writesNZ, incByte, decByte]
  case asl | lsr | rol | ror =>
    obtain rfl | ⟨m, rfl⟩ := shift rfl
    · rw [accumulatorOp_cpu h]
      constructor <;> simp [writesNZ, writesC, aslByte, lsrByte, rolByte, rorByte, shiftFlags]
    · obtain ⟨v, ht⟩ := modifyOp_cpu h
      rw [ht]
      constructor <;> simp [writesNZ, writesC, aslByte, lsrByte, rolByte, rorByte, shiftFlags]
  case bcc | bcs | beq | bne | bmi | bpl | bvc | bvs =>
    obtain ⟨r, rfl⟩ := branch rfl
    obtain ⟨pc, n, ht, -⟩ := branchOp_cpu h
    rw [ht]
    constructor <;> simp [writesPC]
  case jmp =>
    obtain ⟨m, rfl⟩ := store rfl
    obtain ⟨pc, ht⟩ := jumpTo_cpu h
    rw [ht]
    constructor <;> simp [writesPC]
  case jsr =>
    obtain ⟨m, rfl⟩ := store rfl
    obtain ⟨sp, pc, ht⟩ := callTo_cpu h
    rw [ht]
    constructor <;> simp [writesPC, writesSP]
  case brk =>
    rw [impliedOp_cpu h, breakEntry_cpu]
    constructor <;> simp [writesSP, writesPC, writesI]
  case pha | php | pla | plp | rts | rti =>
    rw [impliedOp_cpu h]
    constructor <;> simp [writesSP, writesPC, writesNZ, writesV, writesD, writesI, writesC, pullA, pullP,
      returnFromSubroutine, State.push_eq, State.pull_eq, State.pullWord_eq, State.returnFromException_eq]
  all_goals
    rw [impliedOp_cpu h]
    constructor <;> simp [writesX, writesY, writesSP, writesNZ, writesV, writesD, writesI, writesC]

/-- Settles O29, by the mnemonic of the instruction. -/
theorem instructionRegisterFrame : Obligations.InstructionRegisterFrame := by
  intro i s t h
  have f := exec_registerFrame h
  exact ⟨f.a, f.x, f.y, f.sp, f.pc, f.nz, f.v, f.d, f.i, f.c, f.b, f.u⟩

/-! ## The cost of an instruction -/

/-- The base counts of the documented encodings are 2 to 7 (R111, R115). -/
theorem encodings_cost {m : Mnem} (hm : ∀ op, m ≠ .ill op) : ∀ r ∈ m.encodings, 2 ≤ r.2.2 ∧ r.2.2 ≤ 7 := by
  cases m with
  | ill op => exact absurd rfl (hm op)
  | _ => decide

/-- A documented instruction costs 2 to 8 cycles: its base count, one more for a page crossing, or the 2 to 4 cycles of a
branch (R115, R226). -/
theorem exec_cost_documented {i : Instr} {s t : State} (h : exec i s = .next t) (hm : ∀ op, i.line.mnem ≠ .ill op) :
    2 ≤ t.cpu.cycles ∧ t.cpu.cycles ≤ 8 := by
  obtain ⟨low, high⟩ := encodings_cost hm _ i.encoding_mem.1
  have store := i.mode_of_store
  have shift := i.mode_of_shift
  have branch := i.mode_of_branch
  rw [exec_eq_run] at h
  dsimp only at low high
  generalize i.baseCycles = base at *
  generalize i.line.mnem = mn at *
  generalize i.line.mode = md at *
  cases mn <;> simp only [runLine] at h
  case ill op => exact absurd rfl (hm op)
  case lda | ldx | ldy | and | ora | eor | adc | sbc | cmp | cpx | cpy | bit =>
    obtain ⟨v, u, hu, n, hn, ht⟩ := readOp_cpu h
    have : t.cpu.cycles = base + n := by simp [ht, hu]
    omega
  case sta | stx | sty =>
    obtain ⟨m, rfl⟩ := store rfl
    simp only [storeOp_cpu h]
    omega
  case inc | dec =>
    obtain ⟨m, rfl⟩ := store rfl
    obtain ⟨v, ht⟩ := modifyOp_cpu h
    simp only [ht]
    omega
  case asl | lsr | rol | ror =>
    obtain rfl | ⟨m, rfl⟩ := shift rfl
    · simp only [accumulatorOp_cpu h]
      omega
    · obtain ⟨v, ht⟩ := modifyOp_cpu h
      simp only [ht]
      omega
  case bcc | bcs | beq | bne | bmi | bpl | bvc | bvs =>
    obtain ⟨r, rfl⟩ := branch rfl
    obtain ⟨pc, n, ht, hn⟩ := branchOp_cpu h
    simp only [ht]
    omega
  case jmp =>
    obtain ⟨m, rfl⟩ := store rfl
    obtain ⟨pc, ht⟩ := jumpTo_cpu h
    simp only [ht]
    omega
  case jsr =>
    obtain ⟨m, rfl⟩ := store rfl
    obtain ⟨sp, pc, ht⟩ := callTo_cpu h
    simp only [ht]
    omega
  all_goals
    have : t.cpu.cycles = base := by
      simp [impliedOp_cpu h, pullA, pullP, returnFromSubroutine, State.push_eq, State.pull_eq, State.pullWord_eq,
        breakEntry_cpu, State.returnFromException_eq]
    omega

/-- Every instruction costs 1 to 8 cycles, whatever `ILLEGAL_CYCLES` is (R6, R40). -/
theorem exec_cost {i : Instr} {s t : State} (h : exec i s = .next t) : 1 ≤ t.cpu.cycles ∧ t.cpu.cycles ≤ 8 := by
  by_cases hm : ∃ op, i.line.mnem = .ill op
  · obtain ⟨op, hop⟩ := hm
    rw [exec_eq_run, hop, runLine, illegalOp] at h
    rw [impliedOp_cpu h]
    exact illegalCycles_bounds _ op
  · have := exec_cost_documented h fun op hop => hm ⟨op, hop⟩
    omega

/-- Ticks that find the counter up count it down and do nothing else (R40). -/
theorem ticks_countDown {k : Nat} {s : State} (h : k ≤ s.cpu.cycles) :
    ticks k s = .next (s.setCycles (s.cpu.cycles - k)) := by
  induction k generalizing s with
  | zero => rfl
  | succ k ih =>
    have tick : s.cpuTick = .next s.countDown := if_neg (by omega)
    simp only [ticks, tick]
    rw [ih (by simp [State.countDown]; omega)]
    simp [State.countDown, Nat.sub_sub, Nat.add_comm]

/-- The first of `k` ticks runs the instruction whole (R40). -/
theorem ticks_exec {s t : State} (h0 : s.cpu.cycles = 0) (h : exec s.fetch.instr s.fetch.st = .next t) {k : Nat}
    (h1 : 1 ≤ k) (hk : k ≤ t.cpu.cycles) : ticks k s = .next (t.setCycles (t.cpu.cycles - k)) := by
  obtain ⟨k, rfl⟩ := Nat.exists_eq_add_of_le' h1
  have tick : s.cpuTick = .next t.countDown := by
    simp only [State.cpuTick, if_pos h0, h, andThen]
  simp only [ticks, tick]
  rw [ticks_countDown (by simp [State.countDown]; omega)]
  simp [State.countDown, Nat.sub_sub, Nat.add_comm]

/-- Settles O38, by the cost of the mnemonic and induction on the ticks that count it down. -/
theorem instructionOccupiesItsCycles : Obligations.InstructionOccupiesItsCycles := by
  intro s h0
  obtain ⟨t, h⟩ := exec_goes_on s.fetch.instr s.fetch.st
  obtain ⟨low, high⟩ := exec_cost h
  refine ⟨t, h, low, high, fun hm => (exec_cost_documented h hm).1, fun k h1 hk => ⟨ticks_exec h0 h h1 hk, ?_⟩⟩
  rw [State.complete, State.setCycles_cycles, Bool.eq_iff_iff, beq_iff_eq, decide_eq_true_iff]
  omega

/-! ## The fetch as the decoder sees it -/

@[simp] theorem State.fetchByte_cpu (s : State) : s.fetchByte.st.cpu = { s.cpu with pc := s.cpu.pc + 1 } := by
  rw [State.fetchByte, State.setPc, State.memRead_cpu]

/-- The address of the byte after the one at `pc`. -/
theorem ofNat_pc_succ (pc : Addr) (k : Nat) :
    BitVec.ofNat 16 ((pc + 1).toNat + k) = (BitVec.ofNat 16 (pc.toNat + (k + 1)) : Addr) := by
  apply BitVec.eq_of_toNat_eq
  simp only [BitVec.toNat_ofNat, BitVec.toNat_add, show BitVec.toNat (1 : Addr) = 1 from rfl]
  omega

/-- Taking `k` bytes moves `PC` by `k` and changes no other register (R24). -/
theorem takeBytes_cpu (k : Nat) (s : State) :
    (takeBytes k s).2.cpu = { s.cpu with pc := BitVec.ofNat 16 (s.cpu.pc.toNat + k) } := by
  induction k generalizing s with
  | zero => simp [takeBytes]
  | succ k ih =>
    simp only [takeBytes, ih, State.fetchByte_cpu]
    rw [ofNat_pc_succ]

/-- Taking bytes whose reads have no side effect: the bytes the read-only path shows, and `PC` moved (R24, R64). -/
theorem takeBytes_of_noEffect (k : Nat) (s : State)
    (h : ∀ j, j < k → readHasEffect (BitVec.ofNat 16 (s.cpu.pc.toNat + j)) = false) :
    takeBytes k s = ((List.range k).map fun j => s.cpuPeek (BitVec.ofNat 16 (s.cpu.pc.toNat + j)),
      s.setPc (BitVec.ofNat 16 (s.cpu.pc.toNat + k))) := by
  induction k generalizing s with
  | zero => simp [takeBytes, State.setPc]
  | succ k ih =>
    have first : s.fetchByte = ⟨s.cpuPeek s.cpu.pc, s.setPc (s.cpu.pc + 1)⟩ := by
      have := h 0 (by omega)
      rw [Nat.add_zero, BitVec.ofNat_toNat, BitVec.setWidth_eq] at this
      rw [State.fetchByte, s.memRead_of_noEffect this]
    have rest := ih (s.setPc (s.cpu.pc + 1)) fun j hj => by
      rw [State.setPc_pc, ofNat_pc_succ]
      exact h (j + 1) (by omega)
    simp only [takeBytes, first, rest, State.setPc_pc, ofNat_pc_succ, State.cpuPeek_setPc]
    simp [List.range_succ_eq_map]

/-- When the bytes taken at `PC` decode to an instruction of their number, the fetch is that instruction and the state
they leave (R40, R102). -/
theorem fetch_of_decode {s : State} {i : Instr} (h : decode (takeBytes i.length s).1 = .ok (i, [])) :
    s.fetch = ⟨i, (takeBytes i.length s).2⟩ := by
  obtain ⟨n, hn⟩ : ∃ n, i.length = n + 1 := by
    cases hl : i.length with
    | zero => rw [hl] at h; exact nomatch h
    | succ n => exact ⟨n, rfl⟩
  have len : i.length = (opEntry s.fetchByte.val).make.operands + 1 := by
    rw [hn, takeBytes] at h
    exact (decode_cons_spec h).2.2
  unfold State.fetch
  dsimp only
  cases hm : (opEntry s.fetchByte.val).make with
  | none j =>
    rw [len, hm] at h ⊢
    simp only [Maker.operands, takeBytes, decode_none hm] at h ⊢
    cases h
    rfl
  | byte f =>
    rw [len, hm] at h ⊢
    simp only [Maker.operands, takeBytes, decode_byte hm] at h ⊢
    cases h
    rfl
  | word f =>
    rw [len, hm] at h ⊢
    simp only [Maker.operands, takeBytes, decode_word hm] at h ⊢
    cases h
    rfl

theorem andThen_andThen (o : Host.Outcome State Fault Refusal) (f g : State → State) :
    andThen (andThen o f) g = andThen o fun t => g (f t) := by
  cases o <;> rfl

/-- Settles O37: the fetch is what the decoder says, and the slot is a CPU tick. -/
theorem stepRunsDecodedInstruction : Obligations.StepRunsDecodedInstruction := by
  intro s i u slot armed cycles h
  refine ⟨?_, takeBytes_cpu _ u, takeBytes_of_noEffect _ u⟩
  have tick : u.slot = andThen (exec i (takeBytes i.length u).2) State.countDown := by
    simp only [State.slot, slot, armed, State.cpuTick, cycles, fetch_of_decode h, if_true, if_false, Bool.false_eq_true]
  rw [step, State.busClock, tick, andThen_andThen]

/-! ## The invariant inside a step: the cartridge -/

/-- What holds of a mapper inside a step too: `Mapper.Inv` but for variant 4's IRQ flag, which the step's `Scanline()` may
raise (R535). -/
def Mapper.Held : Mapper → Prop
  | .v0 | .v2 _ | .v3 _ => True
  | .v1 m => m.count ≤ 4 ∧ Mem.wf 8192 m.ram
  | .v4 m => Mem.wf 8192 m.ram

/-- What holds of a cartridge inside a step too. -/
structure Cart.Held (c : Cart) : Prop where
  prg    : Mem.wf c.prgSize c.prg
  chr    : Mem.wf c.chrSize c.chr
  mapper : c.mapper.Held
  id     : c.mapperId.toNat = c.mapper.variant

theorem Mapper.Inv.held {m : Mapper} (h : m.Inv) : m.Held := by
  cases m with
  | v4 m => exact h.2
  | _ => exact h

theorem Cart.Inv.held {c : Cart} (h : c.Inv) : c.Held := ⟨h.prg, h.chr, h.mapper.held, h.id⟩

/-- The IRQ poll brings the cartridge's invariant back (R536). -/
theorem Cart.Held.irqClear {c : Cart} (h : c.Held) : c.irqClear.Inv := by
  obtain ⟨pb, cb, id, hw, prg, chr, mapper⟩ := c
  obtain ⟨hp, hc, hm, hi⟩ := h
  cases mapper with
  | v4 m => exact ⟨hp, hc, ⟨rfl, hm⟩, hi⟩
  | _ => exact ⟨hp, hc, hm, hi⟩

theorem Cart.Held.scanline {c : Cart} (h : c.Held) : c.scanline.Held := by
  obtain ⟨pb, cb, id, hw, prg, chr, mapper⟩ := c
  obtain ⟨hp, hc, hm, hi⟩ := h
  cases mapper <;> exact ⟨hp, hc, hm, hi⟩

/-- The bit count of variant 1 stays at most 4: the fifth bit commits and starts again (R513). -/
theorem Mapper1.serialWrite_count {m : Mapper1} (h : m.count ≤ 4) (pb : Byte) (a : Addr) (d : Byte) :
    (m.serialWrite pb a d).count ≤ 4 := by
  unfold Mapper1.serialWrite
  dsimp only
  split
  · exact Nat.zero_le 4
  split
  · exact Nat.zero_le 4
  · dsimp only; omega

/-- A CPU-side write keeps the mapper's registers in range and its variant (R485, R510, R530). -/
theorem Cart.cpuWrite_mapper {c : Cart} (h : c.mapper.Held) (a : Addr) (d : Byte) :
    (c.cpuWrite a d).cart.mapper.Held ∧ (c.cpuWrite a d).cart.mapper.variant = c.mapper.variant := by
  have ram : ∀ {m : Mem}, Mem.wf 8192 m → Mem.wf 8192 (Mem.write m (a.toNat % 0x2000) d) :=
    Mem.wf_write d (Nat.mod_lt _ (by decide))
  obtain ⟨pb, cb, id, hw, prg, chr, mapper⟩ := c
  unfold Cart.cpuWrite
  cases mapper with
  | v0 => exact ⟨h, rfl⟩
  | v1 m =>
    dsimp only
    split
    · exact ⟨h, rfl⟩
    split
    · exact ⟨⟨h.1, ram h.2⟩, rfl⟩
    · exact ⟨⟨m.serialWrite_count h.1 pb a d, by rw [m.serialWrite_ram]; exact h.2⟩, rfl⟩
  | v2 m => dsimp only; split <;> exact ⟨trivial, rfl⟩
  | v3 m => dsimp only; split <;> exact ⟨trivial, rfl⟩
  | v4 m =>
    dsimp only
    split
    · exact ⟨h, rfl⟩
    split
    · exact ⟨ram h, rfl⟩
    · exact ⟨by show Mem.wf 8192 (m.registerWrite a d).ram; rw [m.registerWrite_ram]; exact h, rfl⟩

theorem Cart.Held.cpuWrite {c : Cart} (h : c.Held) (a : Addr) (d : Byte) : (c.cpuWrite a d).cart.Held := by
  obtain ⟨hm, hv⟩ := c.cpuWrite_mapper h.mapper a d
  rw [c.cpuWrite_keeps]
  exact ⟨h.prg, h.chr, hm, h.id.trans hv.symm⟩

/-- A PPU-side write stays inside CHR storage (R486). -/
theorem Cart.Held.ppuWrite {c : Cart} (h : c.Held) (a : BitVec 14) (d : Byte) : (c.ppuWrite a d).cart.Held := by
  unfold Cart.ppuWrite
  split
  · dsimp only
    split
    · next ho => exact ⟨h.prg, Mem.wf_write d ho h.chr, h.mapper, h.id⟩
    · exact h
  · exact h

/-! ## The invariant inside a step: the picture unit -/

/-- What holds of the picture unit inside a step too: all but the NMI latch, which the step's clock may raise (R400). -/
structure Ppu.Held (u : Ppu) : Prop where
  oam   : Mem.wf 256 u.oam
  nt    : Mem.wf 2048 u.nt
  pal   : Mem.wf 32 u.pal
  frame : Mem.wf (256 * 240) u.frame
  scanlineLow  : -1 ≤ u.scanline
  scanlineHigh : u.scanline ≤ 260
  dot : u.dot ≤ 340
  sprites : u.spriteCount ≤ 8

theorem Ppu.Held.clock {u : Ppu} (h : u.Held) (rd : BitVec 14 → Byte) (leftClip : Bool) :
    (u.clock rd leftClip).Held := by
  have r := u.clock_frame rd leftClip
  obtain ⟨hd, hs⟩ := u.clock_position rd leftClip
  obtain ⟨oam, nt, pal, frame, low, high, dot, sprites⟩ := h
  refine ⟨r.oam ▸ oam, r.nt ▸ nt, r.pal ▸ pal, u.clock_frame_wf rd leftClip frame, ?_, ?_, ?_,
    u.clock_spriteCount rd leftClip sprites⟩
  · rw [hs]; split
    · split <;> omega
    · exact low
  · rw [hs]; split
    · split <;> omega
    · exact high
  · rw [hd]; split <;> omega

theorem ntIndex_lt (m : Mirror) (a : Nat) : ntIndex m a < 2048 := by
  have : ntTable m (a / 0x400 % 4) ≤ 1 := by
    cases m <;> simp only [ntTable] <;> omega
  unfold ntIndex
  omega

theorem palIndex_lt (a : Nat) : palIndex a < 32 := by
  unfold palIndex
  dsimp only
  split <;> omega

theorem Ppu.Held.memWrite {u : Ppu} (h : u.Held) (m : Mirror) (a : Nat) (d : Byte) : (u.memWrite m a d).Held := by
  unfold Ppu.memWrite
  split
  · exact h
  split
  · exact { h with nt := Mem.wf_write d (ntIndex_lt m a) h.nt }
  · exact { h with pal := Mem.wf_write d (palIndex_lt a) h.pal }

theorem Ppu.Held.writeScroll {u : Ppu} (h : u.Held) (d : Byte) : (u.writeScroll d).Held := by
  unfold Ppu.writeScroll
  split <;> exact { h with }

theorem Ppu.Held.writeAddr {u : Ppu} (h : u.Held) (d : Byte) : (u.writeAddr d).Held := by
  unfold Ppu.writeAddr
  split <;> exact { h with }

/-! ## The invariant inside a step: the audio unit -/

/-- What holds of the audio unit beside its divider, which goes with the bus's counter. -/
structure Apu.Held (u : Apu) : Prop where
  frameCtr : u.frameCtr < 14916
  lfsr : u.noise.lfsr ≠ 0

/-- The feedback keeps the noise register from all zero: when the shift drops the only bit, the bit fed in is 1 (R455,
R458). -/
theorem Noise.timerTick_lfsr {z : Noise} (h : z.lfsr ≠ 0) : z.timerTick.lfsr ≠ 0 := by
  unfold Noise.timerTick
  split
  · intro h0
    obtain ⟨hf, hs⟩ := BitVec.or_eq_zero_iff.mp h0
    have half : z.lfsr.toNat / 2 = 0 := by
      simpa [BitVec.toNat_ushiftRight, Nat.shiftRight_eq_div_pow] using congrArg BitVec.toNat hs
    have one : z.lfsr = 1 := by
      apply BitVec.eq_of_toNat_eq
      have : z.lfsr.toNat ≠ 0 := fun hz => h (BitVec.eq_of_toNat_eq hz)
      show z.lfsr.toNat = 1
      omega
    rw [one] at hf
    exact absurd hf (by decide)
  · exact h

theorem Apu.frameTick_frameCtr (u : Apu) :
    u.frameTick.frameCtr = if u.frameCtr + 1 = 14916 then 0 else u.frameCtr + 1 := by
  unfold Apu.frameTick
  dsimp only
  split <;> split <;> rfl

theorem Apu.frameTick_lfsr (u : Apu) : u.frameTick.noise.lfsr = u.noise.lfsr := by
  unfold Apu.frameTick
  dsimp only
  split <;> split <;> rfl

theorem Apu.Held.clock {u : Apu} (h : u.Held) : u.clock.Held := by
  obtain ⟨hf, hl⟩ := h
  unfold Apu.clock
  dsimp only
  split
  · refine ⟨?_, Noise.timerTick_lfsr (by rwa [Apu.frameTick_lfsr])⟩
    show u.frameTick.frameCtr < 14916
    rw [Apu.frameTick_frameCtr]
    split <;> omega
  · exact ⟨hf, hl⟩

/-- A write of an audio register leaves the divider, the sequencer and the noise register alone (R422 to R431). -/
theorem Apu.write_counters (u : Apu) (a : Nat) (d : Byte) :
    (u.write a d).tick6 = u.tick6 ∧ (u.write a d).frameCtr = u.frameCtr ∧ (u.write a d).noise.lfsr = u.noise.lfsr := by
  unfold Apu.write
  split <;> exact ⟨rfl, rfl, rfl⟩

/-! ## The invariant inside a step: the machine but for the CPU -/

/-- What holds, beside the CPU, from the clocks of a step to its end: the invariant but for the interrupt latches, with
the audio divider one ahead of the bus's counter (R305). -/
structure State.Held (s : State) : Prop where
  ram  : Mem.wf 2048 s.bus.ram
  ppu  : s.ppu.Held
  apu  : s.apu.Held
  cart : ∀ c, s.cart = some c → c.Held
  tick6 : s.apu.tick6 = (s.bus.n + 1) % 6
  audioTime : s.bus.audioTime.wf
  audioTimeNonneg : s.bus.audioTime.nonneg = true
  dmaRest : s.bus.dmaArmed = false → s.bus.dmaDummy = true
  params : s.params.Inv

/-- The clocks of a step (R305). -/
theorem State.Inv.beforeSlot_held {s : State} (h : s.Inv) : s.beforeSlot.Held where
  ram := h.ram
  ppu := Ppu.Held.clock ⟨h.oam, h.nt, h.pal, h.frame, h.scanlineLow, h.scanlineHigh, h.dot, h.sprites⟩ _ _
  apu := Apu.Held.clock ⟨h.frameCtr, h.lfsr⟩
  cart := by
    intro c hc
    rw [s.beforeSlot_cart] at hc
    split at hc
    · obtain ⟨c, h', rfl⟩ := Option.map_eq_some_iff.mp hc
      exact (h.cart c h').held.scanline
    · exact (h.cart c hc).held
  tick6 := by
    show (s.apu.tick6 + 1) % 6 = (s.bus.n + 1) % 6
    rw [h.tick6]
    omega
  audioTime := h.audioTime
  audioTimeNonneg := h.audioTimeNonneg
  dmaRest := h.dmaRest
  params := h.params

/-- What reads may leave changed is nothing that the invariant speaks of (R75). -/
theorem State.Held.of_sameButReads {s t : State} (h : s.Held) (k : SameButReads s t) : t.Held := by
  obtain ⟨kcpu, kbus, kppu, kapu, kcart, kparams⟩ := k
  obtain ⟨ram, ppu, apu, cart, tick6, time, nonneg, rest, params⟩ := h
  exact {
    ram := by rwa [kbus]
    ppu := by rw [kppu]; exact { ppu with }
    apu := by rwa [kapu]
    cart := by rwa [kcart]
    tick6 := by rwa [kapu, kbus]
    audioTime := by rwa [kbus]
    audioTimeNonneg := by rwa [kbus]
    dmaRest := by rwa [kbus]
    params := by rwa [kparams] }

theorem State.Held.ppuWrite {s : State} (h : s.Held) (a : BitVec 14) (d : Byte) : (s.ppuWrite a d).Held := by
  unfold State.ppuWrite
  split
  · exact { h with ppu := h.ppu.memWrite _ _ d }
  · next c hc =>
    dsimp only
    split
    · exact { h with cart := fun _ hc' => Option.some.inj hc' ▸ (h.cart c hc).ppuWrite a d }
    · exact { h with ppu := h.ppu.memWrite _ _ d }

theorem State.Held.ppuRegWrite {s : State} (h : s.Held) (r : Nat) (d : Byte) : (s.ppuRegWrite r d).Held := by
  unfold State.ppuRegWrite
  split
  · exact { h with ppu := { h.ppu with } }
  · exact { h with ppu := { h.ppu with } }
  · exact { h with ppu := { h.ppu with } }
  · exact { h with ppu := { h.ppu with oam := Mem.wf_write d s.ppu.oamAddr.isLt h.ppu.oam } }
  · exact { h with ppu := h.ppu.writeScroll d }
  · exact { h with ppu := h.ppu.writeAddr d }
  · have w := h.ppuWrite s.ppu.dataAddr d
    exact { w with ppu := { w.ppu with } }
  · exact h

theorem State.Held.busWrite {s : State} (h : s.Held) (a : Addr) (d : Byte) : (s.busWrite a d).Held := by
  unfold State.busWrite
  dsimp only
  split
  · exact { h with ram := Mem.wf_write d (Nat.mod_lt _ (by decide)) h.ram }
  split
  · exact h.ppuRegWrite _ d
  split
  · obtain ⟨h6, hf, hl⟩ := s.apu.write_counters a.toNat d
    exact { h with apu := ⟨hf ▸ h.apu.frameCtr, hl ▸ h.apu.lfsr⟩, tick6 := h6.trans h.tick6 }
  split
  · exact { h with dmaRest := nofun }
  split
  · exact { h with }
  · exact h

theorem State.Held.memWrite {s : State} (h : s.Held) (a : Addr) (d : Byte) : (s.memWrite a d).Held := by
  unfold State.memWrite
  split
  · exact h.busWrite a d
  · next c hc =>
    have w : ({ s with cart := some (c.cpuWrite a d).cart } : State).Held :=
      { h with cart := fun _ hc' => Option.some.inj hc' ▸ (h.cart c hc).cpuWrite a d }
    dsimp only
    split
    · exact w
    · exact w.busWrite a d

/-- Whatever an instruction does to the machine beside the CPU keeps the invariant. -/
theorem State.Held.accessClosed : AccessClosed fun s t => s.Held → t.Held where
  trans h k hs := k (h hs)
  cpu _ _ h := { h with }
  read s a h := h.of_sameButReads (s.memRead_frame a)
  write _ a d h := h.memWrite a d

/-- A DMA slot (R312 to R315). -/
theorem State.Held.dmaStep {s : State} (h : s.Held) (armed : s.bus.dmaArmed = true) : s.dmaStep.Held := by
  unfold State.dmaStep
  split
  · split
    · exact { h with dmaRest := fun h' => absurd (armed.symm.trans h') (by decide) }
    · exact h
  split
  · have r := h.of_sameButReads (s.memRead_frame (joinBytes s.bus.dmaPage s.bus.dmaAddr))
    exact { r with }
  · exact { h with
      ppu := { h.ppu with oam := Mem.wf_write _ s.bus.dmaAddr.isLt h.ppu.oam }
      dmaRest := fun h' => by simpa using h' }

theorem State.Held.slot {s t : State} (h : s.Held) (hs : s.slot = .next t) : t.Held := by
  rcases State.slot_cases hs with ⟨-, rfl⟩ | ⟨-, armed, rfl⟩ | ⟨-, -, tick⟩
  · exact h
  · exact h.dmaStep armed
  · exact accessClosed.cpuTick tick h

theorem State.Held.audioTick {s : State} (h : s.Held) : s.audioTick.Held := by
  have wf := State.audioTick_wf h.audioTime
  have nonneg := State.audioTick_nonneg h.audioTimeNonneg
  rw [s.audioTick_frame]
  exact { h with audioTime := wf, audioTimeNonneg := nonneg }

theorem State.Held.pollNmi {s : State} (h : s.Held) : s.pollNmi.Held := by
  unfold State.pollNmi
  split
  · exact accessClosed.nmi _ { h with ppu := { h.ppu with } }
  · exact h

theorem State.Held.pollIrq {s : State} (h : s.Held) : s.pollIrq.Held := by
  unfold State.pollIrq
  split
  · exact h
  · next c hc =>
    split
    · exact accessClosed.irq _ { h with cart := fun _ hc' => Option.some.inj hc' ▸ (h.cart c hc).irqClear.held }
    · exact h

/-! ## The invariant inside a step: the CPU -/

/-- What the invariant says of the CPU. -/
structure Cpu.Held (c : Cpu) : Prop where
  statusU : flagU c.p = true
  statusB : flagB c.p = false
  cycles : c.cycles ≤ 8

theorem State.fetch_p (s : State) : s.fetch.st.cpu.p = s.cpu.p := by
  unfold State.fetch
  dsimp only
  split <;> simp

/-- A CPU tick: a whole instruction or one count down (R40). -/
theorem State.cpuTick_held {s t : State} (h : s.cpu.Held) (tick : s.cpuTick = .next t) : t.cpu.Held := by
  unfold State.cpuTick at tick
  split at tick
  · obtain ⟨u, hu⟩ := exec_goes_on s.fetch.instr s.fetch.st
    simp only [hu, andThen] at tick
    cases tick
    have f := exec_registerFrame hu
    have cost := exec_cost hu
    exact ⟨f.u (s.fetch_p ▸ h.statusU), f.b (s.fetch_p ▸ h.statusB), Nat.le_trans (Nat.sub_le _ _) cost.2⟩
  · cases tick
    exact ⟨h.statusU, h.statusB, Nat.le_trans (Nat.sub_le _ _) h.cycles⟩

theorem State.slot_cpu_held {s t : State} (h : s.cpu.Held) (hs : s.slot = .next t) : t.cpu.Held := by
  rcases State.slot_cases hs with ⟨-, rfl⟩ | ⟨-, -, rfl⟩ | ⟨-, -, tick⟩
  · exact h
  · rw [s.dmaStep_cpu]; exact h
  · exact State.cpuTick_held h tick

/-- Interrupt entry clears live B and leaves live U alone (R270). -/
theorem State.enter_held {s : State} (h : s.cpu.Held) {v : Addr} {cost : Nat} (hv : 0x4018 ≤ v.toNat)
    (hv' : v.toNat < 0xFFFF) (hc : cost ≤ 8) : (s.enter v cost).cpu.Held := by
  rw [s.enter_eq cost hv hv']
  exact ⟨by simp [h.statusU], by simp, hc⟩

theorem State.nmi_held {s : State} (h : s.cpu.Held) : s.nmi.cpu.Held :=
  State.enter_held h (v := nmiVector) (by decide) (by decide) (le_refl 8)

theorem State.irq_held {s : State} (h : s.cpu.Held) : s.irq.cpu.Held := by
  unfold State.irq
  split
  · exact h
  · exact State.enter_held h (v := irqVector) (by decide) (by decide) (by decide)

theorem State.pollNmi_held {s : State} (h : s.cpu.Held) : s.pollNmi.cpu.Held := by
  unfold State.pollNmi
  split
  · exact State.nmi_held h
  · exact h

theorem State.pollIrq_held {s : State} (h : s.cpu.Held) : s.pollIrq.cpu.Held := by
  unfold State.pollIrq
  split
  · exact h
  · split
    · exact State.irq_held h
    · exact h

/-! ## The step keeps the invariant -/

/-- The end of a step takes both latches down and counts the step, which brings the invariant back (R305). -/
theorem State.Held.afterSlot {s : State} (h : s.Held) (hc : s.cpu.Held) : s.afterSlot.Inv := by
  obtain ⟨hppu, -, -, hcart, -⟩ := s.afterSlot_facts
  have held := h.audioTick.pollNmi.pollIrq
  have cpu : s.audioTick.pollNmi.pollIrq.cpu.Held :=
    State.pollIrq_held (State.pollNmi_held (by rw [State.audioTick_cpu]; exact hc))
  exact {
    statusU := cpu.statusU, statusB := cpu.statusB, cycles := cpu.cycles
    ram := held.ram
    oam := held.ppu.oam, nt := held.ppu.nt, pal := held.ppu.pal, frame := held.ppu.frame
    scanlineLow := held.ppu.scanlineLow, scanlineHigh := held.ppu.scanlineHigh
    dot := held.ppu.dot, sprites := held.ppu.sprites
    nmi := by rw [hppu]
    cart := by
      intro c hc
      rw [hcart] at hc
      obtain ⟨c, h', rfl⟩ := Option.map_eq_some_iff.mp hc
      exact (h.cart c h').irqClear
    tick6 := held.tick6, frameCtr := held.apu.frameCtr, lfsr := held.apu.lfsr
    audioTime := held.audioTime, audioTimeNonneg := held.audioTimeNonneg
    dmaRest := held.dmaRest, params := held.params }

/-- Settles O42: the clocks, the slot and the end of a step, each by what it keeps. -/
theorem stepKeepsInvariant : Obligations.StepKeepsInvariant := by
  intro s t h hs
  obtain ⟨u, hu, rfl⟩ := step_cases hs
  have cpu : s.beforeSlot.cpu.Held := ⟨h.statusU, h.statusB, h.cycles⟩
  exact (h.beforeSlot_held.slot hu).afterSlot (State.slot_cpu_held cpu hu)

end Sys2Proof.Machine

/-! Proofs of the memory family: what the read-only path depends on, what a CPU-side write can change, the stores of
every instruction, and the storage of the cartridge. -/

namespace Sys2Proof.Machine

open Sys2Proof.Stated

/-! ## What a CPU-side read answers -/

theorem readHasEffect_iff (a : Addr) : readHasEffect a = true ↔
    (0x2000 ≤ a.toNat ∧ a.toNat < 0x4000 ∧ (a.toNat % 8 = 2 ∨ a.toNat % 8 = 7)) ∨ a.toNat = 0x4016 ∨ a.toNat = 0x4017 := by
  simp only [readHasEffect, Bool.or_eq_true, Bool.and_eq_true, decide_eq_true_eq, beq_iff_eq, and_assoc, or_assoc]

/-- Palette addresses are the picture unit's own, whatever cartridge is inserted (R352, R356). -/
theorem State.ppuRead_palette (s : State) {a : BitVec 14} (h : 0x3F00 ≤ a.toNat) : s.ppuRead a = s.ppu.palRead a.toNat := by
  have unclaimed : s.cart.bind (·.ppuRead a) = none := by
    cases s.cart with
    | none => rfl
    | some c => exact if_neg (by omega)
  unfold State.ppuRead
  rw [unclaimed]
  dsimp only
  rw [if_neg (by omega), if_neg (by omega)]

/-- The byte a register answers is the picture unit's alone (R342, R345, R348, R351). -/
theorem State.ppuRegRead_val (s : State) (r : Nat) : (s.ppuRegRead r).val =
    if r = 2 then s.ppu.statusByte
    else if r = 4 then Mem.read s.ppu.oam s.ppu.oamAddr.toNat
    else if r = 7 then
      if 0x3F00 ≤ s.ppu.dataAddr.toNat then s.ppu.palRead s.ppu.dataAddr.toNat else s.ppu.dataBuf
    else 0 := by
  unfold State.ppuRegRead
  split
  · rfl
  · rfl
  · unfold State.readData
    dsimp only
    split
    · next h => exact s.ppuRead_palette h
    · rfl
  · next h2 h4 h7 => rw [if_neg h2, if_neg h4, if_neg h7]

/-- The byte the bus answers below the cartridge (R61, lines 2 to 7). -/
theorem State.busRead_val (s : State) (a : Addr) : (s.busRead a).val =
    if a.toNat < 0x2000 then Mem.read s.bus.ram (a.toNat % 0x800)
    else if a.toNat < 0x4000 then (s.ppuRegRead (a.toNat % 8)).val
    else if a.toNat = 0x4015 then s.apu.status
    else if a.toNat = 0x4016 then padBit s.bus.padShift0
    else if a.toNat = 0x4017 then padBit s.bus.padShift1
    else 0 := by
  simp only [State.busRead, apply_ite Read.val]

/-- No device answers from 0x4018 on (R61, R69). -/
theorem State.busRead_high (s : State) {a : Addr} (h : 0x4018 ≤ a.toNat) : s.busRead a = ⟨0, s⟩ := by
  simp only [State.busRead]
  rw [if_neg (by omega), if_neg (by omega), if_neg (by omega), if_neg (by omega), if_neg (by omega)]

/-- A read that no cartridge claims is the bus's. -/
theorem State.memRead_unclaimed (s : State) {a : Addr} (h : s.cart.bind (·.cpuRead a) = none) :
    s.memRead a = s.busRead a := by
  unfold State.memRead
  rw [h]

/-- A read below the cartridge's window is the bus's (R61, R540). -/
theorem State.memRead_low (s : State) {a : Addr} (h : a.toNat < 0x6000) : s.memRead a = s.busRead a := by
  apply s.memRead_unclaimed
  cases s.cart with
  | none => rfl
  | some c => exact c.cpuRead_low h

/-- Where the cartridge and the bus answer the same in two states, so does the read-only path. -/
theorem State.cpuPeek_congr {s t : State} {a : Addr}
    (cart : t.cart.bind (·.cpuRead a) = s.cart.bind (·.cpuRead a)) (bus : (t.busRead a).val = (s.busRead a).val) :
    t.cpuPeek a = s.cpuPeek a := by
  unfold State.cpuPeek State.memRead
  rw [cart]
  split
  · rfl
  · exact bus

/-! ## The two windows of mirrors -/

theorem State.memRead_ppuWindow (s : State) {a : Addr} (h : 0x2000 ≤ a.toNat) (h' : a.toNat < 0x4000) :
    s.memRead a = s.ppuRegRead (a.toNat % 8) := by
  rw [s.memRead_low (by omega), State.busRead]
  dsimp only
  rw [if_neg (by omega), if_pos h']

theorem State.memWrite_ppuWindow (s : State) {a : Addr} (d : Byte) (h : 0x2000 ≤ a.toNat) (h' : a.toNat < 0x4000) :
    s.memWrite a d = s.ppuRegWrite (a.toNat % 8) d := by
  rw [s.memWrite_low d (by omega), State.busWrite]
  dsimp only
  rw [if_neg (by omega), if_pos h']

/-- Settles O25: a RAM access depends on the address modulo 0x800, a register access on the address modulo 8. -/
theorem mirroredAddresses : Obligations.MirroredAddresses := by
  constructor
  · intro s a j k v ha hj hk mirror
    have low : ∀ n, n < 4 → (mirror n).toNat < 0x2000 ∧ (mirror n).toNat % 0x800 = a := by
      intro n hn
      simp only [mirror, BitVec.toNat_ofNat]
      omega
    obtain ⟨lj, mj⟩ := low j hj
    obtain ⟨lk, mk⟩ := low k hk
    simp only [State.memRead_ramWindow _ lj, State.memRead_ramWindow _ lk, State.memWrite_ramWindow _ _ lj,
      State.memWrite_ramWindow _ _ lk, mj, mk, Mem.read_write_same, and_self]
  · intro s a v h h' b
    have toNat_b : b.toNat = 0x2000 + a.toNat % 8 := by
      simp only [b, BitVec.toNat_ofNat]
      omega
    have same : b.toNat % 8 = a.toNat % 8 := by omega
    rw [s.memRead_ppuWindow h h', s.memWrite_ppuWindow v h h', s.memRead_ppuWindow (a := b) (by omega) (by omega),
      s.memWrite_ppuWindow (a := b) v (by omega) (by omega), same]
    exact ⟨rfl, rfl⟩

/-! ## The cartridge below 0x8000 -/

/-- Only variants 1 and 4 have RAM, so no other claims a read below 0x8000 (R540). -/
theorem Cart.cpuRead_noRam {c : Cart} {a : Addr} (hv : c.mapper.variant ∉ [1, 4]) (h : a.toNat < 0x8000) :
    c.cpuRead a = none := by
  obtain ⟨pb, cb, id, hw, prg, chr, mapper⟩ := c
  unfold Cart.cpuRead Cart.cpuMapRead
  cases mapper with
  | v1 m => simp [Mapper.variant] at hv
  | v4 m => simp [Mapper.variant] at hv
  | v2 m => simp [Mapper2.cpuMapRead, h]
  | _ => simp [fixedPrgRead, Nat.not_le.mpr h]

/-- Nor does a write below 0x8000 reach them (R540). -/
theorem Cart.cpuWrite_noRam {c : Cart} {a : Addr} (d : Byte) (hv : c.mapper.variant ∉ [1, 4]) (h : a.toNat < 0x8000) :
    c.cpuWrite a d = ⟨c, false⟩ := by
  obtain ⟨pb, cb, id, hw, prg, chr, mapper⟩ := c
  unfold Cart.cpuWrite
  cases mapper with
  | v1 m => simp [Mapper.variant] at hv
  | v4 m => simp [Mapper.variant] at hv
  | v0 => rfl
  | _ => exact if_pos h

/-- Cartridge RAM reads back what was written (R510, R530, R540). -/
theorem Cart.cpuRead_cpuWrite_same {c : Cart} {a : Addr} (d : Byte) (hv : c.mapper.variant ∈ [1, 4])
    (h : 0x6000 ≤ a.toNat) (h' : a.toNat < 0x8000) : (c.cpuWrite a d).cart.cpuRead a = some d := by
  have low : ¬a.toNat < 0x6000 := by omega
  obtain ⟨pb, cb, id, hw, prg, chr, mapper⟩ := c
  unfold Cart.cpuWrite
  cases mapper with
  | v1 m => simp [low, h', Cart.cpuRead, Cart.cpuMapRead, Mapper1.cpuMapRead]
  | v4 m => simp [low, h', Cart.cpuRead, Cart.cpuMapRead, Mapper4.cpuMapRead]
  | _ => simp [Mapper.variant] at hv

/-! ## Addresses that nothing claims -/

/-- Outside its windows a cartridge claims no read and is changed by no write (R540). -/
theorem Cart.unclaimed {c : Cart} {a : Addr} (d : Byte)
    (h : a.toNat < 0x6000 ∨ (a.toNat < 0x8000 ∧ c.mapper.variant ∉ [1, 4])) :
    c.cpuRead a = none ∧ (c.cpuWrite a d).cart = c := by
  rcases h with h | ⟨h, hv⟩
  · exact ⟨c.cpuRead_low h, by rw [c.cpuWrite_low d h]⟩
  · exact ⟨Cart.cpuRead_noRam hv h, by rw [Cart.cpuWrite_noRam d hv h]⟩

/-- Above the devices an address that the cartridge, if there is one, does not claim reads 0x00 and ignores writes
(R69). -/
theorem State.unclaimed (s : State) {a : Addr} (d : Byte) (h : 0x4018 ≤ a.toNat)
    (hc : ∀ c, s.cart = some c → c.cpuRead a = none ∧ (c.cpuWrite a d).cart = c) :
    s.memRead a = ⟨0, s⟩ ∧ s.memWrite a d = s := by
  rw [s.memWrite_high d h]
  cases hs : s.cart with
  | none =>
    exact ⟨(s.memRead_unclaimed (by rw [hs]; rfl)).trans (s.busRead_high h), by rw [Option.map_none, ← hs]⟩
  | some c =>
    obtain ⟨read, write⟩ := hc c hs
    exact ⟨(s.memRead_unclaimed (by rw [hs]; exact read)).trans (s.busRead_high h), by
      rw [Option.map_some, write, ← hs]⟩

/-- The audio addresses and the DMA trigger are write-only (R67, R431). -/
theorem State.memRead_writeOnly (s : State) {a : Addr} (h : 0x4000 ≤ a.toNat) (h' : a.toNat ≤ 0x4014) :
    s.memRead a = ⟨0, s⟩ := by
  rw [s.memRead_low (by omega)]
  simp only [State.busRead]
  rw [if_neg (by omega), if_neg (by omega), if_neg (by omega), if_neg (by omega), if_neg (by omega)]

/-- A write in the audio unit's window is the audio unit's (R61, R67). -/
theorem State.memWrite_audio (s : State) {a : Addr} (d : Byte) (h : isAudioWrite a.toNat = true) :
    s.memWrite a d = { s with apu := s.apu.write a.toNat d } := by
  have range : 0x4000 ≤ a.toNat ∧ a.toNat < 0x4018 := by
    simp only [isAudioWrite, Bool.or_eq_true, Bool.and_eq_true, decide_eq_true_eq, beq_iff_eq] at h
    omega
  rw [s.memWrite_low d (by omega), State.busWrite]
  dsimp only
  rw [if_neg (by omega), if_neg (by omega), if_pos h]

/-- Settles O26: where neither the cartridge nor a device answers, the bus answers 0x00 and drops the write. -/
theorem unmatchedAddressesReadZero : Obligations.UnmatchedAddressesReadZero := by
  intro s a v
  refine ⟨fun h => ?_, fun ⟨h, h'⟩ => s.memRead_writeOnly h h', fun h => ?_⟩
  · rcases h with ⟨h, h'⟩ | ⟨h, h', hv⟩ | ⟨h, hc⟩
    · exact s.unclaimed v h fun c _ => Cart.unclaimed v (.inl h')
    · exact s.unclaimed v (by omega) fun c hc => Cart.unclaimed v (.inr ⟨h', hv c hc⟩)
    · exact s.unclaimed v h fun c hs => nomatch hc.symm.trans hs
  · have audio : ∀ n ∈ [0x4008, 0x4009, 0x400A, 0x400B, 0x400D, 0x4010, 0x4011, 0x4012, 0x4013, 0x4017],
        isAudioWrite n = true := by decide
    have noRegister : s.apu.write a.toNat v = s.apu := by
      simp only [List.mem_cons, List.not_mem_nil, or_false] at h
      rcases h with h | h | h | h | h | h | h | h | h | h <;> rw [h] <;> rfl
    rw [s.memWrite_audio v (audio _ h), noRegister]

/-! ## What a CPU-side write can change -/

/-- A register write changes the picture unit, and through DATA the cartridge, and nothing else (R342, R351). -/
theorem State.ppuRegWrite_frame (s : State) (r : Nat) (d : Byte) :
    s.ppuRegWrite r d = { s with ppu := (s.ppuRegWrite r d).ppu, cart := (s.ppuRegWrite r d).cart } := by
  have write : ∀ a, s.ppuWrite a d = { s with ppu := (s.ppuWrite a d).ppu, cart := (s.ppuWrite a d).cart } := by
    intro a
    unfold State.ppuWrite
    dsimp only
    split
    · rfl
    · split <;> rfl
  unfold State.ppuRegWrite
  split
  case h_7 =>
    unfold State.writeData
    dsimp only
    rw [write]
  all_goals rfl

/-- A write changes no argument of the machine, and RAM only from an address below 0x2000 (R61). -/
theorem State.busWrite_params_ram (s : State) (a : Addr) (d : Byte) :
    (s.busWrite a d).params = s.params ∧ (0x2000 ≤ a.toNat → (s.busWrite a d).bus.ram = s.bus.ram) := by
  unfold State.busWrite
  dsimp only
  split
  · next h => exact ⟨rfl, fun h' => absurd h (Nat.not_lt.mpr h')⟩
  split
  · rw [s.ppuRegWrite_frame]
    exact ⟨rfl, fun _ => rfl⟩
  split
  · exact ⟨rfl, fun _ => rfl⟩
  split
  · exact ⟨rfl, fun _ => rfl⟩
  split <;> exact ⟨rfl, fun _ => rfl⟩

theorem State.memWrite_params_ram (s : State) (a : Addr) (d : Byte) :
    (s.memWrite a d).params = s.params ∧ (0x2000 ≤ a.toNat → (s.memWrite a d).bus.ram = s.bus.ram) := by
  by_cases h : 0x4018 ≤ a.toNat
  · rw [s.memWrite_high d h]
    exact ⟨rfl, fun _ => rfl⟩
  · rw [s.memWrite_low d (by omega)]
    exact s.busWrite_params_ram a d

@[simp] theorem State.memWrite_params (s : State) (a : Addr) (d : Byte) : (s.memWrite a d).params = s.params :=
  (s.memWrite_params_ram a d).1

/-- A write outside the device window leaves the devices alone (R61, R63). -/
theorem State.memWrite_offDevices (s : State) {a : Addr} (d : Byte) (h : a.toNat < 0x2000 ∨ 0x4018 ≤ a.toNat) :
    (s.memWrite a d).ppu = s.ppu ∧ (s.memWrite a d).apu = s.apu
      ∧ (s.memWrite a d).bus = { s.bus with ram := (s.memWrite a d).bus.ram } := by
  rcases h with h | h
  · rw [s.memWrite_ramWindow d h]
    exact ⟨rfl, rfl, rfl⟩
  · rw [s.memWrite_high d h]
    exact ⟨rfl, rfl, rfl⟩

/-- The byte a device answers is its own (R61, lines 3 to 7). -/
theorem State.busRead_val_device {s t : State} {b : Addr} (h : 0x2000 ≤ b.toNat) (ppu : t.ppu = s.ppu)
    (apu : t.apu = s.apu) (bus : t.bus = { s.bus with ram := t.bus.ram }) : (t.busRead b).val = (s.busRead b).val := by
  have notRam : ¬b.toNat < 0x2000 := by omega
  simp only [State.busRead_val, if_neg notRam, State.ppuRegRead_val, ppu, apu]
  rw [bus]

/-- The cartridge's part of a write's frame (R540). -/
theorem State.memWrite_cpuRead_other (s : State) {a b : Addr} (d : Byte) (h : ¬mayChange a b) :
    (s.memWrite a d).cart.bind (·.cpuRead b) = s.cart.bind (·.cpuRead b) := by
  unfold mayChange at h
  push Not at h
  obtain ⟨-, -, ram, banks⟩ := h
  by_cases low : a.toNat < 0x6000
  · exact s.memWrite_cpuRead d b low
  · rw [s.memWrite_high d (by omega)]
    cases s.cart with
    | none => rfl
    | some c =>
      by_cases high : a.toNat < 0x8000
      · exact c.cpuRead_cpuWrite_ram d high (ram (by omega) high)
      · exact c.cpuRead_cpuWrite_reg d (banks (by omega)) (by omega)

/-- The bus's part of a write's frame (R61, R65). -/
theorem State.memWrite_busRead_other (s : State) {a b : Addr} (d : Byte) (h : ¬mayChange a b) :
    ((s.memWrite a d).busRead b).val = (s.busRead b).val := by
  unfold mayChange at h
  push Not at h
  obtain ⟨ram, device, -, -⟩ := h
  by_cases hb : b.toNat < 0x2000
  · rw [State.busRead_val, State.busRead_val, if_pos hb, if_pos hb]
    by_cases ha : a.toNat < 0x2000
    · rw [s.memWrite_ramWindow d ha]
      exact Mem.read_write_other _ d (ram ha hb).symm
    · rw [(s.memWrite_params_ram a d).2 (by omega)]
  by_cases hb' : 0x4018 ≤ b.toNat
  · rw [State.busRead_high _ hb', State.busRead_high _ hb']
  · have off : a.toNat < 0x2000 ∨ 0x4018 ≤ a.toNat := by
      by_contra! hc
      exact hb' (device hc.1 hc.2 (by omega))
    obtain ⟨ppu, apu, bus⟩ := s.memWrite_offDevices d off
    exact State.busRead_val_device (by omega) ppu apu bus

/-- What the read-only path shows after a write, outside what the write may change (R65, R75, R540). -/
theorem State.cpuPeek_memWrite_other (s : State) {a b : Addr} (d : Byte) (h : ¬mayChange a b) :
    (s.memWrite a d).cpuPeek b = s.cpuPeek b :=
  State.cpuPeek_congr (s.memWrite_cpuRead_other d h) (s.memWrite_busRead_other d h)

/-- A write of RAM is read back at each of its mirrors (R65). -/
theorem State.cpuPeek_memWrite_ram (s : State) {a b : Addr} (d : Byte) (ha : a.toNat < 0x2000) (h : mayChange a b) :
    (s.memWrite a d).cpuPeek b = d := by
  have mirror : b.toNat < 0x2000 ∧ a.toNat % 0x800 = b.toNat % 0x800 := by
    unfold mayChange at h
    omega
  rw [State.cpuPeek_ramWindow _ mirror.1, s.memWrite_ramWindow d ha, mirror.2]
  exact Mem.read_write_same _ _ d

/-- A write of cartridge RAM is read back (R510, R530, R540). -/
theorem State.cpuPeek_memWrite_cartRam (s : State) {a : Addr} (d : Byte) (h : 0x6000 ≤ a.toNat) (h' : a.toNat < 0x8000)
    {c : Cart} (hc : s.cart = some c) (hv : c.mapper.variant ∈ [1, 4]) : (s.memWrite a d).cpuPeek a = d := by
  rw [s.memWrite_high d (by omega), State.cpuPeek, State.memRead, hc]
  simp only [Option.map_some, Option.bind_some, Cart.cpuRead_cpuWrite_same d hv h h']

/-- Settles O27: the cartridge's and the bus's part of a write's frame, and the two kinds of RAM. -/
theorem writesChangeOnlyTheirTarget : Obligations.WritesChangeOnlyTheirTarget := fun s a v =>
  ⟨fun _ h => s.cpuPeek_memWrite_other v h, s.memWrite_cpu a v, s.memWrite_params a v,
    fun ha _ h => s.cpuPeek_memWrite_ram v ha h,
    fun h h' ⟨_, hc, hv⟩ => s.cpuPeek_memWrite_cartRam v h h' hc hv,
    fun h => s.memWrite_offDevices v h⟩

/-! ## What reads leave -/

theorem SameButReads.onlyReadEffects {s t : State} (h : SameButReads s t) : OnlyReadEffects s t :=
  ⟨h.bus, h.ppu, h.apu, h.cart, h.params⟩

/-- Settles O24: the frame of a read, which the operand's reads inherit. -/
theorem readsHaveOnlyTheListedEffects : Obligations.ReadsHaveOnlyTheListedEffects :=
  ⟨readHasEffect_iff, fun s =>
    ⟨s.cpuPeek_eq, fun _ h => by rw [s.memRead_of_noEffect h],
      fun a => ⟨(s.memRead_frame a).onlyReadEffects, s.memRead_cpu a⟩,
      fun m => ⟨(s.source_frame m).onlyReadEffects, s.source_cpu m⟩⟩⟩

theorem onlyReadEffects_withCpu (s : State) (c : Cpu) : OnlyReadEffects s { s with cpu := c } := ⟨rfl, rfl, rfl, rfl, rfl⟩

theorem onlyReadEffects_refl (s : State) : OnlyReadEffects s s := onlyReadEffects_withCpu s s.cpu

theorem onlyReadEffects_trans {s t u : State} (h : OnlyReadEffects s t) (k : OnlyReadEffects t u) : OnlyReadEffects s u := by
  obtain ⟨hbus, hppu, hapu, hcart, hparams⟩ := h
  obtain ⟨kbus, kppu, kapu, kcart, kparams⟩ := k
  exact ⟨by rw [kbus, hbus], by rw [kppu, hppu], kapu.trans hapu, kcart.trans hcart, kparams.trans hparams⟩

theorem params_of_onlyReadEffects {s t : State} (h : OnlyReadEffects s t) : t.params = s.params := by
  obtain ⟨-, -, -, -, params⟩ := h
  exact params

/-- Reads change no byte whose own read has no side effect (R75). -/
theorem cpuPeek_of_onlyReadEffects {s t : State} (h : OnlyReadEffects s t) {b : Addr} (hb : readHasEffect b = false) :
    t.cpuPeek b = s.cpuPeek b := by
  obtain ⟨bus, ppu, apu, cart, -⟩ := h
  have noEffect := mt (readHasEffect_iff b).mpr (by simp [hb])
  refine State.cpuPeek_congr (by rw [cart]) ?_
  rw [t.busRead_val, s.busRead_val, apu, bus]
  by_cases ram : b.toNat < 0x2000
  · rw [if_pos ram, if_pos ram]
  rw [if_neg ram, if_neg ram]
  by_cases reg : b.toNat < 0x4000
  · have status : b.toNat % 8 ≠ 2 := by omega
    have data : b.toNat % 8 ≠ 7 := by omega
    simp only [if_pos reg, State.ppuRegRead_val, if_neg status, if_neg data]
    rw [ppu]
  · have pad0 : b.toNat ≠ 0x4016 := by omega
    have pad1 : b.toNat ≠ 0x4017 := by omega
    simp only [if_neg reg, if_neg pad0, if_neg pad1]

/-! ## The stores of an instruction -/

/-- From `s` to `t` there are CPU-side writes at exactly the addresses `as`, in that order, and beside them only reads
and changes of CPU registers. -/
inductive StoresAt : List Addr → State → State → Prop
  | nil {s t : State} : OnlyReadEffects s t → StoresAt [] s t
  | cons {s u t : State} {a : Addr} {as : List Addr} (d : Byte) :
      OnlyReadEffects s u → StoresAt as (u.memWrite a d) t → StoresAt (a :: as) s t

namespace StoresAt

variable {as bs : List Addr} {s t u : State}

theorem write (s : State) (a : Addr) (d : Byte) : StoresAt [a] s (s.memWrite a d) :=
  cons d (onlyReadEffects_refl s) (nil (onlyReadEffects_refl _))

theorem after (h : OnlyReadEffects s t) (k : StoresAt as t u) : StoresAt as s u := by
  cases k with
  | nil k => exact nil (onlyReadEffects_trans h k)
  | cons d k rest => exact cons d (onlyReadEffects_trans h k) rest

theorem append (h : StoresAt as s t) (k : StoresAt bs t u) : StoresAt (as ++ bs) s u := by
  induction h with
  | nil h => exact k.after h
  | cons d h _ ih => exact cons d h (ih k)

theorem thenReads (h : StoresAt as s t) (k : OnlyReadEffects t u) : StoresAt as s u :=
  as.append_nil ▸ h.append (nil k)

/-- Outside the addresses stored to, what the read-only path shows without a side effect stays (R75). -/
theorem cpuPeek (h : StoresAt as s t) {b : Addr} (hb : readHasEffect b = false) (hm : ∀ a ∈ as, ¬mayChange a b) :
    t.cpuPeek b = s.cpuPeek b := by
  induction h with
  | nil h => exact cpuPeek_of_onlyReadEffects h hb
  | @cons s u t a as d h _ ih =>
    calc t.cpuPeek b
      _ = (u.memWrite a d).cpuPeek b := ih fun a' ha' => hm a' (List.mem_cons_of_mem a ha')
      _ = u.cpuPeek b := u.cpuPeek_memWrite_other d (hm a List.mem_cons_self)
      _ = s.cpuPeek b := cpuPeek_of_onlyReadEffects h hb

theorem params (h : StoresAt as s t) : t.params = s.params := by
  induction h with
  | nil h => exact params_of_onlyReadEffects h
  | cons d h _ ih => rw [ih, State.memWrite_params, params_of_onlyReadEffects h]

/-! ### The stack -/

theorem push (s : State) (v : Byte) : StoresAt [stackAddr s.cpu.sp] s (s.push v) :=
  (write s _ v).thenReads (onlyReadEffects_withCpu _ _)

theorem pushWord (s : State) (v : Addr) :
    StoresAt [stackAddr s.cpu.sp, stackAddr (s.cpu.sp - 1)] s (s.pushWord v) := by
  have sp : (s.push (page v)).cpu.sp = s.cpu.sp - 1 := by rw [s.push_eq]
  have low := push (s.push (page v)) (lowByte v)
  rw [sp] at low
  exact (push s (page v)).append low

/-- Exception entry pushes three bytes (R248, R270). -/
theorem takeException (s : State) (v : Addr) (image : Byte) :
    StoresAt [stackAddr s.cpu.sp, stackAddr (s.cpu.sp - 1), stackAddr (s.cpu.sp - 2)] s (s.takeException v image) := by
  have third : (s.pushWord s.cpu.pc).cpu.sp = s.cpu.sp - 2 := by
    rw [s.pushWord_eq]
    show s.cpu.sp - 1 - 1 = s.cpu.sp - 2
    bv_omega
  have last := push (s.pushWord s.cpu.pc) image
  rw [third] at last
  refine ((pushWord s s.cpu.pc).append last).thenReads ?_
  exact onlyReadEffects_trans (onlyReadEffects_withCpu _ _) (onlyReadEffects_trans
    ((State.memRead_frame _ v).trans (State.memRead_frame _ (v + 1))).onlyReadEffects (onlyReadEffects_withCpu _ _))

/-! ### The instruction shapes -/

theorem readOp {base : Nat} {x2 : Bool} {f : Byte → State → State} {m : Mode}
    (hf : ∀ v u, OnlyReadEffects u (f v u)) (h : readOp base x2 f m s = .next t) : StoresAt [] s t := by
  cases h
  exact nil (onlyReadEffects_trans (onlyReadEffects_withCpu s _) (onlyReadEffects_trans
    (State.source_frame _ m).onlyReadEffects (onlyReadEffects_trans (hf _ _) (onlyReadEffects_withCpu _ _))))

theorem storeOp {base : Nat} {reg : Cpu → Byte} {m : MemMode} (h : storeOp base reg m s = .next t) :
    StoresAt [(s.locate m).ea] s t := by
  cases h
  rw [s.locate_setCycles]
  exact (write _ _ _).after (onlyReadEffects_trans (s.locate_frame m).onlyReadEffects (onlyReadEffects_withCpu _ _))

theorem modifyOp {base : Nat} {f : Byte → Byte → Modified} {m : MemMode} (h : modifyOp base f m s = .next t) :
    StoresAt [(s.locate m).ea] s t := by
  rw [modifyOp_eq] at h
  cases h
  have reads := ((s.locate_frame m).trans (State.memRead_frame _ (s.locate m).ea)).onlyReadEffects
  exact ((write _ _ _).after reads).thenReads (onlyReadEffects_withCpu _ _)

theorem accumulatorOp {base : Nat} {f : Byte → Byte → Modified} (h : accumulatorOp base f s = .next t) :
    StoresAt [] s t := by
  cases h
  exact nil (onlyReadEffects_withCpu s _)

theorem impliedOp {base : Nat} {f : State → State} (h : impliedOp base f s = .next t)
    (hf : StoresAt as (s.setCycles base) (f (s.setCycles base))) : StoresAt as s t := by
  cases h
  exact hf.after (onlyReadEffects_withCpu s _)

theorem branchOp {c : Byte → Bool} {r : Byte} (h : branchOp c r s = .next t) : StoresAt [] s t := by
  unfold Machine.branchOp at h
  dsimp only at h
  split at h <;> cases h <;> exact nil (onlyReadEffects_withCpu s _)

theorem jumpTo {base : Nat} {m : MemMode} (h : jumpTo base m s = .next t) : StoresAt [] s t := by
  cases h
  exact nil (onlyReadEffects_trans (onlyReadEffects_withCpu s _) (onlyReadEffects_trans
    (State.locate_frame _ m).onlyReadEffects (onlyReadEffects_withCpu _ _)))

theorem callTo {m : MemMode} (h : callTo m s = .next t) :
    StoresAt [stackAddr s.cpu.sp, stackAddr (s.cpu.sp - 1)] s t := by
  cases h
  have sp : ((s.setCycles 6).locate m).st.cpu.sp = s.cpu.sp := by rw [State.locate_cpu, State.setCycles_sp]
  have call := pushWord ((s.setCycles 6).locate m).st (((s.setCycles 6).locate m).st.cpu.pc - 1)
  rw [sp] at call
  exact (call.after (onlyReadEffects_trans (onlyReadEffects_withCpu s _) (State.locate_frame _ m).onlyReadEffects)).thenReads
    (onlyReadEffects_withCpu _ _)

/-- Every instruction stores exactly at the addresses `storedTo` names (R75, R82, R86). -/
theorem exec {i : Instr} (h : exec i s = .next t) : StoresAt (storedTo i s) s t := by
  have store := i.mode_of_store
  have shift := i.mode_of_shift
  have branch := i.mode_of_branch
  rw [exec_eq_run] at h
  unfold storedTo
  generalize i.baseCycles = base at h
  generalize i.line.mnem = mn at *
  generalize i.line.mode = md at *
  cases mn <;> simp only [runLine] at h
  case lda | ldx | ldy | and | ora | eor | adc | sbc | cmp | cpx | cpy | bit =>
    exact readOp (fun _ u => onlyReadEffects_withCpu u _) h
  case sta | stx | sty =>
    obtain ⟨m, rfl⟩ := store rfl
    exact storeOp h
  case inc | dec =>
    obtain ⟨m, rfl⟩ := store rfl
    exact modifyOp h
  case asl | lsr | rol | ror =>
    obtain rfl | ⟨m, rfl⟩ := shift rfl
    · exact accumulatorOp h
    · exact modifyOp h
  case bcc | bcs | beq | bne | bmi | bpl | bvc | bvs =>
    obtain ⟨r, rfl⟩ := branch rfl
    exact branchOp h
  case jmp =>
    obtain ⟨m, rfl⟩ := store rfl
    exact jumpTo h
  case jsr =>
    obtain ⟨m, rfl⟩ := store rfl
    exact callTo h
  case pha | php => exact impliedOp h (push (s.setCycles base) _)
  case brk =>
    have entry := takeException ((s.setCycles base).setPc (s.cpu.pc + 1)) irqVector (softImage s.cpu.p)
    exact impliedOp h (entry.after (onlyReadEffects_withCpu _ _))
  case pla | plp | rts | rti =>
    refine impliedOp h (nil ?_)
    simp only [pullA, pullP, returnFromSubroutine, State.pull_eq, State.pullWord_eq, State.returnFromException_eq]
    exact onlyReadEffects_withCpu _ _
  all_goals exact impliedOp h (nil (onlyReadEffects_withCpu _ _))

end StoresAt

/-- Settles O28: the stores of the instruction, and what lies between them. -/
theorem instructionMemoryFrame : Obligations.InstructionMemoryFrame := by
  intro i s t h
  have stores := StoresAt.exec h
  refine ⟨fun b hb hm => stores.cpuPeek hb hm, fun none => ?_, stores.params⟩
  rw [none] at stores
  cases stores with
  | nil reads => exact reads

/-! ## The storage of the cartridge -/

/-- `c'` has the storage and the header of `c` (R480, R486). -/
structure Cart.SameStorage (c c' : Cart) : Prop where
  prg      : c'.prg = c.prg
  prgBanks : c'.prgBanks = c.prgBanks
  chrBanks : c'.chrBanks = c.chrBanks
  mapperId : c'.mapperId = c.mapperId
  hwMirror : c'.hwMirror = c.hwMirror
  variant  : c'.mapper.variant = c.mapper.variant
  chr      : c.chrIsRam = false → c'.chr = c.chr

theorem Cart.SameStorage.refl (c : Cart) : c.SameStorage c := ⟨rfl, rfl, rfl, rfl, rfl, rfl, fun _ => rfl⟩

theorem Cart.SameStorage.trans {c c' c'' : Cart} (h : c.SameStorage c') (k : c'.SameStorage c'') : c.SameStorage c'' where
  prg := k.prg.trans h.prg
  prgBanks := k.prgBanks.trans h.prgBanks
  chrBanks := k.chrBanks.trans h.chrBanks
  mapperId := k.mapperId.trans h.mapperId
  hwMirror := k.hwMirror.trans h.hwMirror
  variant := k.variant.trans h.variant
  chr rom := (k.chr (by rw [Cart.chrIsRam, h.chrBanks]; exact rom)).trans (h.chr rom)

/-- A change of the mapper's registers and RAM keeps the storage. -/
theorem Cart.SameStorage.withMapper (c : Cart) {m : Mapper} (h : m.variant = c.mapper.variant) :
    c.SameStorage { c with mapper := m } := ⟨rfl, rfl, rfl, rfl, rfl, h, fun _ => rfl⟩

theorem Cart.cpuWrite_variant (c : Cart) (a : Addr) (d : Byte) :
    (c.cpuWrite a d).cart.mapper.variant = c.mapper.variant := by
  obtain ⟨pb, cb, id, hw, prg, chr, mapper⟩ := c
  unfold Cart.cpuWrite
  cases mapper with
  | v0 => rfl
  | v1 m | v4 m =>
    dsimp only
    split
    · rfl
    · split <;> rfl
  | v2 m | v3 m =>
    dsimp only
    split <;> rfl

theorem Cart.SameStorage.cpuWrite (c : Cart) (a : Addr) (d : Byte) : c.SameStorage (c.cpuWrite a d).cart := by
  rw [c.cpuWrite_keeps]
  exact withMapper c (c.cpuWrite_variant a d)

theorem Cart.SameStorage.ppuWrite (c : Cart) (a : BitVec 14) (d : Byte) : c.SameStorage (c.ppuWrite a d).cart := by
  obtain ⟨frame, rom⟩ := c.ppuWrite_keeps a d
  have chr : c.chrIsRam = false → (c.ppuWrite a d).cart.chr = c.chr := fun h => by rw [rom h]
  rw [frame]
  exact ⟨rfl, rfl, rfl, rfl, rfl, rfl, chr⟩

theorem Cart.SameStorage.scanline (c : Cart) : c.SameStorage c.scanline := by
  obtain ⟨pb, cb, id, hw, prg, chr, mapper⟩ := c
  cases mapper with
  | v4 m => exact withMapper _ rfl
  | _ => exact refl _

theorem Cart.SameStorage.irqClear (c : Cart) : c.SameStorage c.irqClear := by
  obtain ⟨pb, cb, id, hw, prg, chr, mapper⟩ := c
  cases mapper with
  | v4 m => exact withMapper _ rfl
  | _ => exact refl _

/-- A cartridge in `s` is in `t` with the same storage. -/
def State.KeepsStorage (s t : State) : Prop := ∀ c, s.cart = some c → ∃ c', t.cart = some c' ∧ c.SameStorage c'

namespace State.KeepsStorage

variable {s t u : State}

theorem of_cart (h : t.cart = s.cart) : s.KeepsStorage t := fun c hc => ⟨c, h.trans hc, Cart.SameStorage.refl c⟩

theorem of_map {f : Cart → Cart} (hf : ∀ c : Cart, c.SameStorage (f c)) (h : t.cart = s.cart.map f) : s.KeepsStorage t :=
  fun c hc => ⟨f c, by rw [h, hc, Option.map_some], hf c⟩

theorem trans (h : s.KeepsStorage t) (k : t.KeepsStorage u) : s.KeepsStorage u := by
  intro c hc
  obtain ⟨c', hc', same⟩ := h c hc
  obtain ⟨c'', hc'', same'⟩ := k c' hc'
  exact ⟨c'', hc'', same.trans same'⟩

/-- Through DATA the CPU reaches CHR storage, which changes only when it is RAM (R351, R486). -/
theorem ppuWrite (s : State) (a : BitVec 14) (d : Byte) : s.KeepsStorage (s.ppuWrite a d) := by
  unfold State.ppuWrite
  split
  · exact of_cart rfl
  · next c hc =>
    dsimp only
    split
    · exact of_map (fun c => Cart.SameStorage.ppuWrite c a d) (by rw [hc]; rfl)
    · exact of_cart rfl

theorem ppuRegWrite (s : State) (r : Nat) (d : Byte) : s.KeepsStorage (s.ppuRegWrite r d) := by
  unfold State.ppuRegWrite
  split
  case h_7 => exact (ppuWrite s _ d).trans (of_cart rfl)
  all_goals exact of_cart rfl

theorem memWrite (s : State) (a : Addr) (d : Byte) : s.KeepsStorage (s.memWrite a d) := by
  by_cases high : 0x4018 ≤ a.toNat
  · rw [s.memWrite_high d high]
    exact of_map (fun c => Cart.SameStorage.cpuWrite c a d) rfl
  · rw [s.memWrite_low d (by omega)]
    unfold State.busWrite
    dsimp only
    split
    · exact of_cart rfl
    split
    · exact ppuRegWrite s _ d
    split
    · exact of_cart rfl
    split
    · exact of_cart rfl
    split <;> exact of_cart rfl

theorem accessClosed : AccessClosed KeepsStorage where
  trans := trans
  cpu _ _ := of_cart rfl
  read s a := of_cart (s.memRead_cart a)
  write := memWrite

theorem slot (h : s.slot = .next t) : s.KeepsStorage t :=
  accessClosed.slot (fun _ _ _ _ _ => of_cart rfl) (fun _ _ _ => of_cart rfl) h

theorem beforeSlot (s : State) : s.KeepsStorage s.beforeSlot := by
  by_cases h : s.ppu.scanlineDot
  · exact of_map Cart.SameStorage.scanline (by rw [s.beforeSlot_cart, if_pos h])
  · exact of_cart (by rw [s.beforeSlot_cart, if_neg h])

theorem afterSlot (s : State) : s.KeepsStorage s.afterSlot := by
  obtain ⟨-, -, -, cart, -⟩ := s.afterSlot_facts
  exact of_map Cart.SameStorage.irqClear cart

theorem step (h : step s = .next t) : s.KeepsStorage t := by
  obtain ⟨u, hu, rfl⟩ := step_cases h
  exact (beforeSlot s).trans ((slot hu).trans (afterSlot u))

end State.KeepsStorage

/-- Settles O30: reads, writes and the mapper's own clocks keep the storage, so a step does. -/
theorem cartridgeStorageIsKept : Obligations.CartridgeStorageIsKept := by
  intro s t c h hc
  obtain ⟨c', hc', same⟩ := State.KeepsStorage.step h c hc
  exact ⟨c', hc', same.prg, same.prgBanks, same.chrBanks, same.mapperId, same.hwMirror, same.variant, same.chr⟩

end Sys2Proof.Machine

/-! Proofs of the encoding family: every instruction is made by the row of its own opcode byte, so decoder and
encoder are inverse to each other. -/

namespace Sys2Proof

open Sys2Proof.Machine

/-! ## The row of an instruction's opcode byte makes the instruction -/

/-- The instructions a row of the decoder's table builds, one for each value of its operand (R103). -/
inductive Maker.Makes (i : Instr) : Maker → Prop where
  | none : Makes i (.none i)
  | byte {f : Byte → Instr} : (∃ b, f b = i) → Makes i (.byte f)
  | word {f : Addr → Instr} : (∃ a, f a = i) → Makes i (.word f)

/-- The encoder's opcode byte of an instruction selects the decoder's row that builds the instruction (R110, R111). -/
theorem Instr.opEntry_makes (i : Instr) : (opEntry i.opcode).make.Makes i := by
  unfold Instr.opcode
  -- An opcode byte depends on mnemonic and format alone: without the operand, the look-up in the table computes.
  cases i <;> dsimp only [Instr.line, Mode.format, MemMode.format] <;> constructor <;> exact ⟨_, rfl⟩

/-- The two tables print one base cycle count for an instruction (R110, R111, R115). -/
theorem Instr.opEntry_cycles (i : Instr) : (opEntry i.opcode).cycles = i.baseCycles := by
  have agrees := opEntry_agrees i.opcode
  have makes := i.opEntry_makes
  generalize (opEntry i.opcode).make = m at agrees makes
  cases makes with
  | none =>
    obtain ⟨-, -, -, -, -, cycles⟩ := agrees
    exact cycles.symm
  | byte made =>
    obtain ⟨b, rfl⟩ := made
    obtain ⟨-, -, -, -, -, cycles⟩ := agrees b
    exact cycles.symm
  | word made =>
    obtain ⟨a, rfl⟩ := made
    obtain ⟨-, -, -, -, -, cycles⟩ := agrees a
    exact cycles.symm

/-- The round trip: the opcode byte selects the row, and the row rebuilds the operand from the bytes the encoder wrote,
low byte first (R102). -/
theorem decode_encode (i : Instr) (rest : List Byte) : decode (encode i ++ rest) = .ok (i, rest) := by
  have agrees := opEntry_agrees i.opcode
  have makes := i.opEntry_makes
  generalize hm : (opEntry i.opcode).make = m at agrees makes
  cases makes with
  | none =>
    obtain ⟨bytes, -⟩ := agrees
    rw [bytes]
    exact decode_none hm rest
  | byte made =>
    obtain ⟨b, rfl⟩ := made
    obtain ⟨bytes, -⟩ := agrees b
    rw [bytes]
    exact decode_byte hm b rest
  | word made =>
    obtain ⟨a, rfl⟩ := made
    obtain ⟨bytes, -⟩ := agrees a
    have decoded := decode_word hm (lowByte a) (page a) rest
    rw [joinBytes_page_lowByte] at decoded
    rw [bytes]
    exact decoded

/-! ## The length of an instruction -/

theorem Format.length_bounds (f : Format) : 1 ≤ f.length ∧ f.length ≤ 3 := by cases f <;> decide

theorem MemMode.operandBytes_length (m : MemMode) : (Mode.mem m).operandBytes.length + 1 = m.format.length := by
  cases m <;> rfl

theorem Mode.operandBytes_length (m : Mode) : m.operandBytes.length + 1 = m.format.length := by
  cases m with
  | mem m => exact m.operandBytes_length
  | _ => rfl

/-- The opcode byte comes first and the operand bytes follow it (R100, R101). -/
theorem encode_eq_cons (i : Instr) : encode i = i.opcode :: i.line.mode.operandBytes := by
  obtain ⟨-, head⟩ := i.encoding_mem
  cases h : i.line.mnem.opcode i.line.mode.format with
  | none => simp [encode, Line.assemble, h] at head
  | some op => simp [encode, Line.assemble, Instr.opcode, h]

/-- The encoding has as many bytes as the instruction's format says (R100, R101). -/
@[simp] theorem encode_length (i : Instr) : (encode i).length = i.length := by
  rw [encode_eq_cons]
  exact i.line.mode.operandBytes_length

/-- No opcode byte is rejected, and no operand needs more than two bytes (R103). -/
theorem decode_of_three (op b1 b2 : Byte) (rest : List Byte) :
    ∃ i tail, decode (op :: b1 :: b2 :: rest) = .ok (i, tail) := by
  cases hm : (opEntry op).make with
  | none i => exact ⟨_, _, decode_none hm _⟩
  | byte f => exact ⟨_, _, decode_byte hm _ _⟩
  | word f => exact ⟨_, _, decode_word hm _ _ _⟩

/-! ## The obligations -/

/-- Settles O1, by the row of the decoder's table that the instruction's opcode byte selects. -/
theorem decodeOfEncode : Obligations.DecodeOfEncode := fun i rest _ => decode_encode i rest

/-- Settles O2: the empty list does not decode, and a row builds what is encoded by its opcode byte. -/
theorem encodeOfDecode : Obligations.EncodeOfDecode := by
  intro bs i rest h
  cases bs with
  | nil => exact nomatch h
  | cons op xs =>
    obtain ⟨bytes, -, -⟩ := decode_cons_spec h
    exact ⟨bytes, i.wellFormed_all⟩

/-- Settles O3: what three bytes decode to is encoded by the bytes taken off, and the length is that of the row. -/
theorem decoderIsTotal : Obligations.DecoderIsTotal := by
  refine ⟨fun op b1 b2 rest => ?_, fun op xs ys i j r q hi hj => ?_⟩
  · obtain ⟨i, tail, h⟩ := decode_of_three op b1 b2 rest
    obtain ⟨bytes, rfl, -⟩ := decode_cons_spec h
    obtain ⟨atLeast, atMost⟩ := i.line.mode.format.length_bounds
    refine ⟨i, tail, h, i.wellFormed_all, rfl, i.opEntry_cycles.symm, ?_, atLeast, atMost⟩
    rw [bytes, List.drop_left' (encode_length i)]
  · obtain ⟨-, -, lengthI⟩ := decode_cons_spec hi
    obtain ⟨-, -, lengthJ⟩ := decode_cons_spec hj
    exact lengthI.trans lengthJ.symm

/-- Settles O4, by running the decoder on each word. -/
theorem writtenWordsDecode : Obligations.WrittenWordsDecode := ⟨rfl, rfl, rfl, rfl, rfl, rfl, rfl, rfl⟩

end Sys2Proof

/-! Proofs of the addressing family: where each memory format finds its operand, in numbers, and when forming the
address reports a page crossing. -/

namespace Sys2Proof.Machine

/-! ## Addresses in numbers -/

/-- A sum of bytes addresses the zero page modulo 256 (R134 to R137). -/
theorem zeroPage_add (y z : Byte) : zeroPage (y + z) = BitVec.ofNat 16 ((y.toNat + z.toNat) % 256) := by
  rw [zeroPage_eq, BitVec.toNat_add]

/-- An indexed sum wraps modulo 65536 (R137, R139, R142). -/
theorem add_zext16 (base : Addr) (index : Byte) : base + zext16 index = BitVec.ofNat 16 (base.toNat + index.toNat) := by
  apply BitVec.eq_of_toNat_eq
  rw [BitVec.toNat_add, toNat_zext16, BitVec.toNat_ofNat]

/-- The page of an address is its quotient by 256, so comparing pages compares quotients. -/
theorem page_bne (a b : Addr) : (page a != page b) = decide (a.toNat / 256 ≠ b.toNat / 256) := by
  rw [Bool.eq_iff_iff, bne_iff_ne, decide_eq_true_iff, ← toNat_page, ← toNat_page, BitVec.toNat_ne_iff_ne]

/-- The indexed address and its page-crossing report (R137, R139, R142). -/
theorem indexed_eq (base : Addr) (index : Byte) (s : State) :
    indexed base index s =
      ⟨BitVec.ofNat 16 (base.toNat + index.toNat),
        decide ((BitVec.ofNat 16 (base.toNat + index.toNat) : Addr).toNat / 256 ≠ base.toNat / 256), s⟩ := by
  rw [← add_zext16, ← page_bne]
  rfl

/-- The page of a byte pair is its high byte. -/
theorem toNat_joinBytes_div (hi lo : Byte) : (joinBytes hi lo).toNat / 256 = hi.toNat := by
  rw [← toNat_page, page_joinBytes]

/-! ## Pointers in the zero page -/

/-- A two-byte pointer in the zero page: its high byte wraps inside the zero page, and reading it changes nothing
(R136, R137). -/
theorem State.readPair_zeroPage_succ (s : State) (z : Byte) :
    s.readPair (zeroPage z) (zeroPage (z + 1)) =
      ⟨joinBytes (Mem.read s.bus.ram ((z.toNat + 1) % 256)) (Mem.read s.bus.ram z.toNat), s⟩ :=
  s.readPair_zeroPage z (z + 1)

/-- The indexed indirect address is the pointer at the wrapped sum of `z` and `X` (R136). -/
theorem State.locate_izx (s : State) (z : Byte) :
    s.locate (.izx z) =
      ⟨joinBytes (Mem.read s.bus.ram ((z.toNat + s.cpu.x.toNat + 1) % 256))
        (Mem.read s.bus.ram ((z.toNat + s.cpu.x.toNat) % 256)), false, s⟩ := by
  simp only [State.locate, State.readPair_zeroPage_succ, BitVec.toNat_add, Nat.mod_add_mod]

/-- The indirect indexed address is the pointer at `z`, indexed by `Y` (R137). -/
theorem State.locate_izy (s : State) (z : Byte) :
    s.locate (.izy z) =
      indexed (joinBytes (Mem.read s.bus.ram ((z.toNat + 1) % 256)) (Mem.read s.bus.ram z.toNat)) s.cpu.y s := by
  simp only [State.locate, State.readPair_zeroPage_succ]

/-! ## The obligation -/

/-- Settles O23: each mode by its own rule, the two kinds of sum as numbers. -/
theorem effectiveAddresses : Obligations.EffectiveAddresses := by
  intro s zp
  refine ⟨fun z => ⟨?zp0, ?zpx, ?zpy, ?izx, ?izy⟩, fun a => ⟨rfl, ?abx, ?aby⟩, fun m => rfl, fun v => rfl, rfl⟩
  case zp0 => exact congrArg (Located.mk · false s) (zeroPage_eq z)
  case zpx => exact congrArg (Located.mk · false s) (zeroPage_add z s.cpu.x)
  case zpy => exact congrArg (Located.mk · false s) (zeroPage_add z s.cpu.y)
  case izx => exact s.locate_izx z
  case izy =>
    have inZeroPage : zp z.toNat = Mem.read s.bus.ram z.toNat :=
      congrArg (Mem.read s.bus.ram) (Nat.mod_eq_of_lt z.isLt)
    rw [s.locate_izy, indexed_eq, toNat_joinBytes_div, toNat_joinBytes, ← inZeroPage]
  case abx => exact indexed_eq a s.cpu.x s
  case aby => exact indexed_eq a s.cpu.y s

end Sys2Proof.Machine

/-! Proofs of the load and store family: the encodings of a mnemonic, and what a load of a register and a store of one
leave behind. -/

namespace Sys2Proof

open Sys2Proof.Machine Sys2Proof.Stated

/-! ## The encodings of a mnemonic -/

/-- The encoder's rows of a mnemonic are rows of the opcode matrix (R110 to R112). -/
theorem opEntry_mnem_of_encodings {m : Mnem} {op : Byte} {f : Format} {c : Nat} (row : (op, f, c) ∈ m.encodings) :
    (opEntry op).mnem = m := by
  have rows : ∀ r ∈ m.encodings, (opEntry r.1).mnem = m := by
    cases m with
    | ill op =>
      have illegal : ∀ q ∈ illegalOpcodes, (opEntry q.1).mnem = .ill q.1 := by decide
      intro r hr
      obtain ⟨q, hq, rfl⟩ := List.mem_map.mp hr
      obtain ⟨mem, isOp⟩ := List.mem_filter.mp hq
      rw [illegal q mem, beq_iff_eq.mp isOp]
    | _ => decide
  exact rows _ row

/-- The opcode byte of an instruction selects a row of its mnemonic. -/
theorem Instr.opEntry_mnem (i : Instr) : (opEntry i.opcode).mnem = i.line.mnem :=
  opEntry_mnem_of_encodings i.encoding_mem.1

/-- A mnemonic is encoded as the encoder's table says: its instructions by those rows, and the opcode bytes of those
rows as its instructions (R111). -/
theorem encodedAs_encodings (m : Mnem) : EncodedAs m m.encodings := by
  constructor
  · rintro i rfl
    exact i.encoding_mem
  · rintro ⟨op, f, c⟩ row b1 b2
    obtain ⟨i, tail, h⟩ := decode_of_three op b1 b2 []
    obtain ⟨-, opcode, -⟩ := decode_cons_spec h
    refine ⟨i, tail, h, ?_, opcode⟩
    rw [← i.opEntry_mnem, opcode]
    exact opEntry_mnem_of_encodings row

end Sys2Proof

namespace Sys2Proof.Machine

open Sys2Proof.Stated

/-! ## Loads -/

/-- `SetZN` in the words of the statements: Z and N of the byte, the other flags as they were (R9). -/
theorem znOf_setZN (r p : Byte) : ZNOf r (setZN r p) p := by
  have zero : (r == 0#8) = decide (r.toNat = 0) := by
    rw [Bool.eq_iff_iff, beq_iff_eq, decide_eq_true_iff, ← BitVec.toNat_inj, BitVec.toNat_zero]
  simp [ZNOf, FlagsAre, zero]

/-- An instruction that reads its operand once and then changes registers alone, by `g`: the state is the one the
operand's reads leave, with the registers that `g` gives and the cost of R115. -/
theorem readOp_registers {f : Byte → State → State} {g : Byte → Cpu → Cpu}
    (registers : ∀ v t, f v t = { t with cpu := g v t.cpu })
    (keepsCycles : ∀ v c n, g v { c with cycles := n } = { g v c with cycles := n })
    (base : Nat) (x2 : Bool) (m : Mode) (s : State) :
    readOp base x2 f m s = .next { (s.source m).st with
      cpu := { g (s.source m).val s.cpu with cycles := base + if (s.source m).crossed && x2 then 1 else 0 } } := by
  have commutes : ∀ v n t, f v (State.setCycles t n) = (f v t).setCycles n := by
    intro v n t
    rw [registers, registers, State.setCycles, State.setCycles, keepsCycles]
  rw [readOp_eq base x2 f m s commutes, registers, State.source_cpu]
  rfl

/-- A reading instruction whose operation changes registers alone and can use the extra cycle of a page crossing. -/
theorem exec_of_readOp_registers {i : Instr} {s : State} {f : Byte → State → State} {g : Byte → Cpu → Cpu}
    (run : exec i s = readOp i.baseCycles true f i.line.mode s)
    (registers : ∀ v t, f v t = { t with cpu := g v t.cpu })
    (keepsCycles : ∀ v c n, g v { c with cycles := n } = { g v c with cycles := n }) :
    exec i s = .next { (s.source i.line.mode).st with
      cpu := { g (s.source i.line.mode).val s.cpu with cycles := costOf i s } } := by
  rw [run, readOp_registers registers keepsCycles, Bool.and_true]
  rfl

/-- Settles O5: the rows of the encoder's table, and each load as a read that changes its register and `P` alone. -/
theorem loadsWriteTheirRegister : Obligations.LoadsWriteTheirRegister := by
  refine ⟨⟨encodedAs_encodings .lda, encodedAs_encodings .ldx, encodedAs_encodings .ldy⟩, fun i s => ?_⟩
  have run := exec_eq_run i s
  refine ⟨fun mnem => ?lda, fun mnem => ?ldx, fun mnem => ?ldy⟩ <;> rw [mnem] at run
  case lda =>
    exact ⟨_, exec_of_readOp_registers (g := fun v c => { c with a := v, p := setZN v c.p }) run (fun _ _ => rfl)
      (fun _ _ _ => rfl), znOf_setZN _ _⟩
  case ldx =>
    exact ⟨_, exec_of_readOp_registers (g := fun v c => { c with x := v, p := setZN v c.p }) run (fun _ _ => rfl)
      (fun _ _ _ => rfl), znOf_setZN _ _⟩
  case ldy =>
    exact ⟨_, exec_of_readOp_registers (g := fun v c => { c with y := v, p := setZN v c.p }) run (fun _ _ => rfl)
      (fun _ _ _ => rfl), znOf_setZN _ _⟩

/-! ## Stores -/

/-- A store leaves the CPU's registers and flags alone: the write is the only other change (R153 to R155). -/
theorem storeOp_next (base : Nat) (reg : Cpu → Byte) (m : MemMode) (s : State)
    (hr : ∀ c n, reg { c with cycles := n } = reg c) :
    storeOp base reg m s = .next { (s.locate m).st.memWrite (s.locate m).ea (reg s.cpu) with
      cpu := { s.cpu with cycles := base } } := by
  rw [storeOp_eq base reg m s hr, State.setCycles, State.memWrite_cpu, State.locate_cpu]

/-- A mnemonic that runs as a store of a register stores that register. -/
theorem storesByte_of_runLine {i : Instr} {reg : Cpu → Byte} (hr : ∀ c n, reg { c with cycles := n } = reg c)
    (store : [Mnem.sta, .stx, .sty, .inc, .dec, .jmp, .jsr].contains i.line.mnem = true)
    (run : ∀ base m s, runLine i.line.mnem base (.mem m) s = storeOp base reg m s) (s : State) :
    StoresByte i s (reg s.cpu) := by
  obtain ⟨m, mode⟩ := i.mode_of_store store
  refine ⟨m, mode, ?_⟩
  rw [exec_eq_run, mode, run, storeOp_next _ _ _ _ hr]

/-- Settles O6: the rows of the encoder's table, and each mnemonic as a store of its register. -/
theorem storesWriteTheByte : Obligations.StoresWriteTheByte := by
  refine ⟨⟨encodedAs_encodings .sta, encodedAs_encodings .stx, encodedAs_encodings .sty⟩, fun i s => ?_⟩
  refine ⟨fun mnem => ?sta, fun mnem => ?stx, fun mnem => ?sty⟩
  case sta => exact storesByte_of_runLine (reg := Cpu.a) (fun _ _ => rfl) (by rw [mnem]; rfl) (by simp [mnem, runLine]) s
  case stx => exact storesByte_of_runLine (reg := Cpu.x) (fun _ _ => rfl) (by rw [mnem]; rfl) (by simp [mnem, runLine]) s
  case sty => exact storesByte_of_runLine (reg := Cpu.y) (fun _ _ => rfl) (by rw [mnem]; rfl) (by simp [mnem, runLine]) s

end Sys2Proof.Machine

/-! Proofs of the transfer and stack family: a transfer moves a byte between registers, and a stack instruction moves
one byte of the stack page with the stack pointer. -/

namespace Sys2Proof.Machine

open Sys2Proof.Stated

/-- An instruction that ends with `SetZN(v)` completes with Z and N of `v`, the other flags as they were (R9). -/
theorem completes_of_setZN {i : Instr} {s : State} {t : Byte → State} {v : Byte}
    (run : exec i s = .next (t (setZN v s.cpu.p))) : Completes i s t (ZNOf v · s.cpu.p) :=
  ⟨_, run, znOf_setZN v s.cpu.p⟩

/-! ## The stack instructions after the base count is set -/

/-- A push after the base count is set stores at the old stack pointer and keeps `P` (R166, R167). -/
theorem State.setCycles_push (s : State) (n : Nat) (v : Byte) :
    (s.setCycles n).push v = { s with
      cpu := { s.cpu with sp := s.cpu.sp - 1, cycles := n }
      bus := { s.bus with ram := pushed s.bus.ram s.cpu.sp [v] } } :=
  State.push_eq _ v

@[simp] theorem stackByte_setCycles (s : State) (n : Nat) (sp : Byte) :
    stackByte (s.setCycles n) sp = stackByte s sp := rfl

/-- `PLA` takes the byte above the stack pointer, with its Z and N (R168). -/
theorem pullA_eq (s : State) :
    pullA s = { s with
      cpu := { s.cpu with
        a := stackByte s (s.cpu.sp + 1), sp := s.cpu.sp + 1, p := setZN (stackByte s (s.cpu.sp + 1)) s.cpu.p } } := by
  unfold pullA
  rw [s.pull_eq]
  rfl

/-- `PLP` takes the status from the byte above the stack pointer (R169). -/
theorem pullP_eq (s : State) :
    pullP s = { s with
      cpu := { s.cpu with sp := s.cpu.sp + 1, p := pulledStatus (stackByte s (s.cpu.sp + 1)) } } := by
  unfold pullP
  rw [s.pull_eq]
  rfl

/-! ## The obligations -/

/-- Settles O8: the rows of the encoder's table, one push or pull in each instruction, and what the pushed image and
the pulled status make of the bits of `P`. -/
theorem stackInstructions : Obligations.StackInstructions := by
  refine ⟨⟨encodedAs_encodings .pha, encodedAs_encodings .php, encodedAs_encodings .pla, encodedAs_encodings .plp⟩,
    fun s => ⟨?pha, ?php, flagB_softImage s.cpu.p, flagU_softImage s.cpu.p, ?pla, ?plp⟩⟩
  case pha => exact congrArg Host.Outcome.next (s.setCycles_push 3 s.cpu.a)
  case php => exact congrArg Host.Outcome.next (s.setCycles_push 3 (softImage s.cpu.p))
  case pla => exact completes_of_setZN (congrArg Host.Outcome.next (pullA_eq (s.setCycles 4)))
  case plp => exact ⟨_, congrArg Host.Outcome.next (pullP_eq (s.setCycles 4)), by simp⟩

/-- Settles O7: the rows of the encoder's table, and each transfer as a write of its register, `SetZN` after all but
`TXS`. -/
theorem transfersMoveRegisters : Obligations.TransfersMoveRegisters :=
  ⟨⟨encodedAs_encodings .tax, encodedAs_encodings .tay, encodedAs_encodings .txa, encodedAs_encodings .tya,
      encodedAs_encodings .tsx, encodedAs_encodings .txs⟩,
    fun _ => ⟨completes_of_setZN rfl, completes_of_setZN rfl, completes_of_setZN rfl, completes_of_setZN rfl,
      completes_of_setZN rfl, rfl⟩⟩

end Sys2Proof.Machine

/-! Proofs of the logic family: `AND`, `ORA` and `EOR` load `A` with its combination with the operand, and `BIT` changes
`P` alone. -/

namespace Sys2Proof.Machine

open Sys2Proof.Stated

/-- A reading instruction that loads `A` with `f` of `A` and the operand, and can use the extra cycle. -/
theorem accumulatorGets_of_loadA {i : Instr} {s : State} {op : Byte → State → State} {f : Byte → Byte → Byte}
    (run : exec i s = readOp i.baseCycles true op i.line.mode s) (loads : ∀ v t, op v t = loadA (f t.cpu.a v) t) :
    AccumulatorGets i s (f s.cpu.a) :=
  ⟨_, exec_of_readOp_registers (g := fun v c => { c with a := f c.a v, p := setZN (f c.a v) c.p }) run loads
    (fun _ _ _ => rfl), znOf_setZN _ _⟩

/-- `BIT`'s flags in the words of the statement (R183). -/
theorem flagsAre_bitFlags (a m p : Byte) :
    FlagsAre (bitFlags a m p) p (m.getLsbD 7) (m.getLsbD 6) (flagD p) (flagI p) (decide ((a &&& m).toNat = 0))
      (flagC p) := by
  have zero : (a &&& m == 0) = decide ((a &&& m).toNat = 0) := decide_eq_decide.mpr BitVec.toNat_inj.symm
  simpa [FlagsAre, bitFlags] using zero

/-- Settles O9: the rows of the encoder's table, and each mnemonic as a load of `A` with the combined byte. -/
theorem logicCombinesWithA : Obligations.LogicCombinesWithA := by
  refine ⟨⟨encodedAs_encodings .and, encodedAs_encodings .ora, encodedAs_encodings .eor⟩, fun i s => ?_⟩
  have run := exec_eq_run i s
  refine ⟨fun mnem => ?and, fun mnem => ?ora, fun mnem => ?eor⟩ <;> rw [mnem] at run
  case and => exact accumulatorGets_of_loadA run andA_eq
  case ora => exact accumulatorGets_of_loadA run orA_eq
  case eor => exact accumulatorGets_of_loadA run eorA_eq

/-- Settles O10: the rows of the encoder's table, and a read that changes `P` alone and takes no extra cycle. -/
theorem bitTestsTheOperand : Obligations.BitTestsTheOperand := by
  refine ⟨encodedAs_encodings .bit, fun i s mnem => ?_⟩
  have run := exec_eq_run i s
  rw [mnem, runLine, readOp_registers (f := bitTest) (g := fun v c => { c with p := bitFlags c.a v c.p })
    (fun _ _ => rfl) (fun _ _ _ => rfl), Bool.and_false] at run
  exact ⟨_, run, flagsAre_bitFlags _ _ _⟩

end Sys2Proof.Machine

/-! Proofs of the arithmetic family: `ADC` adds with carry, `SBC` is `ADC` of the complemented operand, and the compares
change `P` alone. -/

namespace Sys2Proof.Machine

open Sys2Proof.Stated

/-! ## Addition and subtraction of a byte in numbers -/

/-- The overflow of an addition with carry, as the two sides on which the signed sum leaves the range (R190). -/
theorem addWithCarry_overflow_sides (a m : Byte) (c : Bool) :
    (addWithCarry a m c).overflow = decide (a.toInt + m.toInt + c.toNat < -128 ∨ 127 < a.toInt + m.toInt + c.toNat) := by
  rw [addWithCarry_overflow, decide_eq_decide]
  omega

/-- The operand `SBC` adds is the one's complement (R191). -/
theorem xor_ff (m : Byte) : m ^^^ 0xFF = ~~~m := BitVec.xor_allOnes

theorem toNat_xor_ff (m : Byte) : (m ^^^ 0xFF).toNat = 255 - m.toNat := by
  rw [xor_ff, BitVec.toNat_not]

theorem toInt_xor_ff (m : Byte) : (m ^^^ 0xFF).toInt = -1 - m.toInt := by
  have := m.isLt
  rw [BitVec.toInt_eq_toNat_cond, BitVec.toInt_eq_toNat_cond, toNat_xor_ff]
  omega

/-- Adding the complement subtracts the operand and the borrow, modulo 256 (R191). -/
theorem addWithCarry_complement_result (a m : Byte) (c : Bool) :
    (addWithCarry a (m ^^^ 0xFF) c).result.toNat = (a.toNat + 256 - m.toNat - (1 - c.toNat)) % 256 := by
  have := m.isLt
  have := Bool.toNat_lt c
  rw [addWithCarry_result, toNat_xor_ff]
  omega

/-- The carry of a subtraction says that no borrow occurred (R191). -/
theorem addWithCarry_complement_carry (a m : Byte) (c : Bool) :
    (addWithCarry a (m ^^^ 0xFF) c).carry = decide (m.toNat + (1 - c.toNat) ≤ a.toNat) := by
  have := m.isLt
  have := Bool.toNat_lt c
  rw [addWithCarry_carry, toNat_xor_ff, decide_eq_decide]
  omega

/-- The overflow of a subtraction says that the signed difference leaves the range (R191). -/
theorem addWithCarry_complement_overflow (a m : Byte) (c : Bool) :
    (addWithCarry a (m ^^^ 0xFF) c).overflow =
      decide (a.toInt - m.toInt - (1 - c.toNat : Nat) < -128 ∨ 127 < a.toInt - m.toInt - (1 - c.toNat : Nat)) := by
  have := Bool.toNat_lt c
  rw [addWithCarry_overflow_sides, toInt_xor_ff, decide_eq_decide]
  omega

/-! ## The flags in the words of the statements -/

theorem byte_beq_zero (r : Byte) : (r == 0) = decide (r.toNat = 0) := decide_eq_decide.mpr BitVec.toNat_inj.symm

/-- The flags after an addition or subtraction: C and V of the sum, Z and N of its 8-bit result (R190, R191). -/
theorem flagsAre_sumFlags (r : Sum) (p : Byte) :
    FlagsAre (sumFlags r p) p (decide (128 ≤ r.result.toNat)) r.overflow (flagD p) (flagI p)
      (decide (r.result.toNat = 0)) r.carry := by
  simp only [← getLsbD_seven, ← byte_beq_zero]
  simp [FlagsAre, sumFlags]

/-- The flags after `Compare(R, M)`: the difference is zero exactly when the two are equal (R196). -/
theorem comparedTo_compareFlags (r m p : Byte) : ComparedTo r m (compareFlags r m p) p := by
  have equal : (r - m == 0) = decide (r = m) := decide_eq_decide.mpr sub_eq_zero
  simpa [ComparedTo, FlagsAre, compareFlags] using equal

/-! ## `ADC` and `SBC` -/

/-- The registers after adding `v` with carry to `A` (R190). -/
def Cpu.addToA (v : Byte) (c : Cpu) : Cpu :=
  let r := addWithCarry c.a v (flagC c.p)
  { c with a := r.result, p := sumFlags r c.p }

/-- A reading instruction that adds `f M` of its operand `M` to `A` with carry, and can use the extra cycle: `A`, C and
V are of the sum `r`, whatever D is (R190, R195). -/
theorem completes_of_adcA {i : Instr} {s : State} {op : Byte → State → State} {f : Byte → Byte} {r : Sum}
    {overflow carry : Bool} (run : exec i s = readOp i.baseCycles true op i.line.mode s)
    (adds : ∀ v t, op v t = adcA (f v) t)
    (sum : addWithCarry s.cpu.a (f (s.source i.line.mode).val) (flagC s.cpu.p) = r)
    (overflow_eq : r.overflow = overflow) (carry_eq : r.carry = carry) :
    Completes i s (fun p => { (s.source i.line.mode).st with
        cpu := { s.cpu with a := r.result, p := p, cycles := costOf i s } })
      fun p => FlagsAre p s.cpu.p (decide (128 ≤ r.result.toNat)) overflow (flagD s.cpu.p) (flagI s.cpu.p)
        (decide (r.result.toNat = 0)) carry := by
  subst sum overflow_eq carry_eq
  exact ⟨_, exec_of_readOp_registers (g := fun v => Cpu.addToA (f v)) run adds (fun _ _ _ => rfl),
    flagsAre_sumFlags _ _⟩

/-- Settles O11: the rows of the encoder's table, and the sum, carry and overflow of the addition as numbers. -/
theorem addWithCarrySums : Obligations.AddWithCarrySums := by
  refine ⟨encodedAs_encodings .adc, fun i s mnem => ?_⟩
  have run := exec_eq_run i s
  rw [mnem] at run
  exact ⟨_, addWithCarry_result _ _ _, completes_of_adcA (f := id) run (fun _ _ => rfl) rfl
    (addWithCarry_overflow_sides _ _ _) (addWithCarry_carry _ _ _)⟩

/-- Settles O12: the rows of the encoder's table, and the addition of the complement as a subtraction in numbers. -/
theorem subtractWithBorrow : Obligations.SubtractWithBorrow := by
  refine ⟨encodedAs_encodings .sbc, fun i s mnem => ?_⟩
  have run := exec_eq_run i s
  rw [mnem] at run
  exact ⟨_, addWithCarry_complement_result _ _ _, completes_of_adcA run sbcA_eq rfl
    (addWithCarry_complement_overflow _ _ _) (addWithCarry_complement_carry _ _ _)⟩

/-! ## The compares -/

/-- The registers after `Compare(R, M)` of a register (R196). -/
def Cpu.compareTo (reg : Cpu → Byte) (m : Byte) (c : Cpu) : Cpu := { c with p := compareFlags (reg c) m c.p }

/-- A reading instruction that compares a register with its operand: the flags of R196, and the extra cycle of a page
crossing when `x2` says that its operation can use one (R115). -/
theorem completes_of_compare {i : Instr} {s : State} {x2 : Bool} {op : Byte → State → State} (reg : Cpu → Byte)
    (run : exec i s = readOp i.baseCycles x2 op i.line.mode s)
    (compares : ∀ v t, op v t = { t with cpu := t.cpu.compareTo reg v })
    (keepsCycles : ∀ c n, reg { c with cycles := n } = reg c) :
    let o := s.source i.line.mode
    Completes i s
      (fun p => { o.st with cpu := { s.cpu with p := p, cycles := i.baseCycles + if o.crossed && x2 then 1 else 0 } })
      fun p => ComparedTo (reg s.cpu) o.val p s.cpu.p := by
  have registers := readOp_registers (g := fun v c => c.compareTo reg v) compares
    (fun v c n => by simp only [Cpu.compareTo, keepsCycles])
  exact ⟨_, run.trans (registers _ _ _ _), comparedTo_compareFlags _ _ _⟩

/-- Settles O13: the rows of the encoder's table, and each mnemonic as a compare of its register. -/
theorem comparesSetFlags : Obligations.ComparesSetFlags := by
  refine ⟨⟨encodedAs_encodings .cmp, encodedAs_encodings .cpx, encodedAs_encodings .cpy⟩, fun i s => ?_⟩
  have run := exec_eq_run i s
  refine ⟨fun mnem => ?cmp, fun mnem => ?cpx, fun mnem => ?cpy⟩ <;> rw [mnem] at run
  case cmp => simpa [costOf] using completes_of_compare Cpu.a run (fun _ _ => rfl) (fun _ _ => rfl)
  case cpx => simpa using completes_of_compare Cpu.x run (fun _ _ => rfl) (fun _ _ => rfl)
  case cpy => simpa using completes_of_compare Cpu.y run (fun _ _ => rfl) (fun _ _ => rfl)

end Sys2Proof.Machine

/-! Proofs of the increment, decrement and shift family: a read-modify-write instruction puts a function of the byte in
its place, in memory or in `A`, and each shift and rotate as numbers. -/

namespace Sys2Proof.Machine

open Sys2Proof.Stated

/-! ## Read-modify-write -/

/-- A mnemonic that runs as a read-modify-write of memory modifies its byte (R82). -/
theorem modifiesByte_of_runLine {i : Instr} {mn : Mnem} {m : MemMode} {op : Byte → Byte → Modified} {s : State}
    {post : Byte → Byte → Prop} (mnem : i.line.mnem = mn) (mode : i.line.mode = .mem m)
    (run : ∀ base, runLine mn base (.mem m) s = modifyOp base op m s) (flags : ∀ v, post v (op v s.cpu.p).p) :
    ModifiesByte i s (fun v => (op v s.cpu.p).val) post := by
  refine ⟨m, mode, _, ?_, flags _⟩
  rw [exec_eq_run, mnem, mode, run, modifyOp_eq, State.setP, State.setCycles, State.memWrite_cpu, State.memRead_cpu,
    State.locate_cpu]

/-- A mnemonic that runs as an operation on `A` modifies `A` (R131). -/
theorem modifiesA_of_runLine {i : Instr} {mn : Mnem} {op : Byte → Byte → Modified} {s : State}
    {post : Byte → Byte → Prop} (mnem : i.line.mnem = mn) (mode : i.line.mode = .acc)
    (run : ∀ base, runLine mn base .acc s = accumulatorOp base op s) (flags : ∀ v, post v (op v s.cpu.p).p) :
    ModifiesA i s (fun v => (op v s.cpu.p).val) post := by
  refine ⟨mode, _, ?_, flags _⟩
  rw [exec_eq_run, mnem, mode, run]
  rfl

/-- Settles O14: the rows of the encoder's table, `INC` and `DEC` as read-modify-writes, and the others as writes of
their register, each with `SetZN` of the new byte. -/
theorem incrementsAndDecrements : Obligations.IncrementsAndDecrements := by
  refine ⟨⟨encodedAs_encodings .inc, encodedAs_encodings .dec, encodedAs_encodings .inx, encodedAs_encodings .iny,
    encodedAs_encodings .dex, encodedAs_encodings .dey⟩, fun i s => ⟨fun mnem => ?inc, fun mnem => ?dec,
    completes_of_setZN rfl, completes_of_setZN rfl, completes_of_setZN rfl, completes_of_setZN rfl⟩⟩
  case inc =>
    obtain ⟨m, mode⟩ := i.mode_of_store (by rw [mnem]; rfl)
    exact modifiesByte_of_runLine (op := incByte) mnem mode (fun _ => rfl) fun v => znOf_setZN (v + 1) s.cpu.p
  case dec =>
    obtain ⟨m, mode⟩ := i.mode_of_store (by rw [mnem]; rfl)
    exact modifiesByte_of_runLine (op := decByte) mnem mode (fun _ => rfl) fun v => znOf_setZN (v - 1) s.cpu.p

/-! ## Shifts and rotates in numbers -/

theorem getLsbD_zero_eq (m : Byte) : m.getLsbD 0 = decide (m.toNat % 2 = 1) := Nat.testBit_zero m.toNat

theorem toNat_bitAt {k : Nat} (c : Bool) (hk : k < 8) : (bitAt 8 c k).toNat = 2 ^ k * c.toNat := by
  have fits : 2 ^ k < 2 ^ 8 := Nat.pow_lt_pow_right (by decide) hk
  cases c with
  | false => simp [bitAt]
  | true => simpa [bitAt, Nat.shiftLeft_eq] using fits

/-- A bit put where a byte has none adds its weight. -/
theorem toNat_or_bitAt {x : Byte} {k : Nat} (c : Bool) (hk : k < 8) (clear : x.getLsbD k = false) :
    (x ||| bitAt 8 c k).toNat = (x.toNat + 2 ^ k * c.toNat) % 256 := by
  have disjoint : x &&& bitAt 8 c k = 0#8 := by
    apply BitVec.eq_of_getLsbD_eq
    intro j _
    rw [BitVec.getLsbD_and, getLsbD_bitAt, BitVec.getLsbD_zero]
    by_cases h : j = k
    · rw [h, clear, Bool.false_and]
    · simp [h]
  rw [← BitVec.add_eq_or_of_and_eq_zero _ _ disjoint, BitVec.toNat_add, toNat_bitAt c hk]

theorem toNat_shiftLeft_one (m : Byte) : (m <<< 1).toNat = 2 * m.toNat % 256 := by
  rw [BitVec.toNat_shiftLeft, Nat.shiftLeft_eq, Nat.mul_comm]

theorem toNat_ushiftRight_one (m : Byte) : (m >>> 1).toNat = m.toNat / 2 := by
  rw [BitVec.toNat_ushiftRight, Nat.shiftRight_eq_div_pow]

theorem shiftIs_shiftLeft (m : Byte) (c : Bool) : ShiftIs .asl m c (shiftLeft m).result (shiftLeft m).out :=
  ⟨toNat_shiftLeft_one m, getLsbD_seven m⟩

theorem shiftIs_shiftRight (m : Byte) (c : Bool) : ShiftIs .lsr m c (shiftRight m).result (shiftRight m).out :=
  ⟨toNat_ushiftRight_one m, getLsbD_zero_eq m⟩

/-- The shift left leaves bit 0 free for the old carry (R208). -/
theorem shiftIs_rotateLeft (m : Byte) (c : Bool) : ShiftIs .rol m c (rotateLeft m c).result (rotateLeft m c).out := by
  refine ⟨?_, getLsbD_seven m⟩
  rw [rotateLeft, toNat_or_bitAt c (by decide) (by simp), toNat_shiftLeft_one]
  omega

/-- The shift right leaves bit 7 free for the old carry (R209). -/
theorem shiftIs_rotateRight (m : Byte) (c : Bool) :
    ShiftIs .ror m c (rotateRight m c).result (rotateRight m c).out := by
  refine ⟨?_, getLsbD_zero_eq m⟩
  have := m.isLt
  have := Bool.toNat_lt c
  rw [rotateRight, toNat_or_bitAt c (by decide) (by simp), toNat_ushiftRight_one]
  omega

/-- C is the bit shifted out, Z and N are of the result (R206 to R209). -/
theorem shiftFlags_stated (r : Shifted) (p : Byte) : ShiftFlags r.result r.out (shiftFlags r p) p := by
  simpa [ShiftFlags, FlagsAre, shiftFlags] using byte_beq_zero r.result

/-- A shift by `f` puts the shifted byte in place of `A` or of the byte in memory, with the flags of `f`. -/
theorem modifies_of_shift {i : Instr} {mn : Mnem} {op : Byte → Byte → Modified} {f : Byte → Shifted} {s : State}
    (mnem : i.line.mnem = mn) (shift : [Mnem.asl, .lsr, .rol, .ror].contains i.line.mnem = true)
    (onByte : ∀ base m, runLine mn base (.mem m) s = modifyOp base op m s)
    (onA : ∀ base, runLine mn base .acc s = accumulatorOp base op s)
    (shifts : ∀ v, op v s.cpu.p = ⟨(f v).result, shiftFlags (f v) s.cpu.p⟩)
    (numbers : ∀ v, ShiftIs mn v (flagC s.cpu.p) (f v).result (f v).out) :
    ∃ (g : Byte → Byte) (out : Byte → Bool), (∀ m, ShiftIs i.line.mnem m (flagC s.cpu.p) (g m) (out m))
      ∧ (ModifiesA i s g (fun m p => ShiftFlags (g m) (out m) p s.cpu.p)
        ∨ ModifiesByte i s g (fun m p => ShiftFlags (g m) (out m) p s.cpu.p)) := by
  have flags : ∀ v, ShiftFlags (op v s.cpu.p).val (f v).out (op v s.cpu.p).p s.cpu.p := fun v => by
    rw [shifts]
    exact shiftFlags_stated (f v) s.cpu.p
  refine ⟨fun v => (op v s.cpu.p).val, fun v => (f v).out, fun v => ?_, ?_⟩
  · simpa only [mnem, shifts] using numbers v
  · obtain acc | ⟨m, mem⟩ := i.mode_of_shift shift
    · exact .inl (modifiesA_of_runLine mnem acc onA flags)
    · exact .inr (modifiesByte_of_runLine mnem mem (onByte · m) flags)

/-- Settles O15: the rows of the encoder's table, and each mnemonic as a modification by its shift. -/
theorem shiftsAndRotates : Obligations.ShiftsAndRotates := by
  refine ⟨⟨encodedAs_encodings .asl, encodedAs_encodings .lsr, encodedAs_encodings .rol, encodedAs_encodings .ror⟩,
    fun i s shift => ?_⟩
  have mnems : i.line.mnem = .asl ∨ i.line.mnem = .lsr ∨ i.line.mnem = .rol ∨ i.line.mnem = .ror := by
    simpa using shift
  obtain asl | lsr | rol | ror := mnems
  · exact modifies_of_shift asl shift (fun _ _ => rfl) (fun _ => rfl) (fun _ => rfl) (shiftIs_shiftLeft · _)
  · exact modifies_of_shift lsr shift (fun _ _ => rfl) (fun _ => rfl) (fun _ => rfl) (shiftIs_shiftRight · _)
  · exact modifies_of_shift rol shift (fun _ _ => rfl) (fun _ => rfl) (fun _ => rfl) (shiftIs_rotateLeft · _)
  · exact modifies_of_shift ror shift (fun _ _ => rfl) (fun _ => rfl) (fun _ => rfl) (shiftIs_rotateRight · _)

end Sys2Proof.Machine

/-! Proofs of the control family: a jump and a call set `PC`, a return takes it from the stack, and a branch moves it by
a signed offset when its flag has the value it tests. -/

namespace Sys2Proof.Machine

open Sys2Proof.Stated

/-! ## Jumps -/

/-- Where the high byte of an indirect jump's target is read, in numbers: the page-wrap defect (R140). -/
theorem indirectHigh_eq (p : Addr) :
    indirectHigh p = if p.toNat % 256 = 255 then BitVec.ofNat 16 (p.toNat - 255) else p + 1 := by
  have endsPage : lowByte p = 0xFF ↔ p.toNat % 256 = 255 := by
    rw [← BitVec.toNat_inj, toNat_lowByte]
    rfl
  have startOfPage (h : p.toNat % 256 = 255) : joinBytes (page p) 0x00 = BitVec.ofNat 16 (p.toNat - 255) := by
    have := p.isLt
    apply BitVec.eq_of_toNat_eq
    simp only [toNat_joinBytes, toNat_page, BitVec.ofNat_eq_ofNat, BitVec.toNat_ofNat]
    omega
  rw [indirectHigh]
  by_cases h : p.toNat % 256 = 255
  · rw [if_pos (endsPage.mpr h), if_pos h, startOfPage h]
  · rw [if_neg (mt endsPage.mp h), if_neg h]

/-- A jump changes what forming its effective address changes, `PC` and the cycle counter (R220). -/
theorem jumpTo_next (base : Nat) (m : MemMode) (s : State) :
    jumpTo base m s = .next { (s.locate m).st with cpu := { s.cpu with pc := (s.locate m).ea, cycles := base } } := by
  rw [jumpTo, s.locate_setCycles, State.setPc, State.setCycles, State.locate_cpu]

/-- Settles O16: the rows of the encoder's table, and each form as a jump to its effective address, the indirect one's
high byte read where the page-wrap defect puts it. -/
theorem jumpsSetPC : Obligations.JumpsSetPC := by
  refine ⟨encodedAs_encodings .jmp, fun s => ⟨fun a => jumpTo_next 3 (.abs a) s, fun p => ?indirect⟩⟩
  case indirect =>
    rw [← indirectHigh_eq]
    exact jumpTo_next 5 (.ind p) s

/-! ## Calls and returns -/

/-- A call to an absolute address pushes the address before `PC` and jumps (R221). -/
theorem callTo_abs (a : Addr) (s : State) :
    callTo (.abs a) s = .next { s with
      cpu := { s.cpu with pc := a, sp := s.cpu.sp - 2, cycles := 6 }
      bus := { s.bus with ram := pushed s.bus.ram s.cpu.sp [page (s.cpu.pc - 1), lowByte (s.cpu.pc - 1)] } } := by
  have twoDown : s.cpu.sp - 1 - 1 = s.cpu.sp - 2 := sub_sub _ _ _
  rw [callTo, State.pushWord_eq, ← twoDown]
  rfl

/-- `RTS` takes `PC` from the two bytes above the stack pointer, the low byte first, and adds one (R222). -/
theorem returnFromSubroutine_eq (s : State) :
    returnFromSubroutine s = { s with
      cpu := { s.cpu with
        pc := joinBytes (stackByte s (s.cpu.sp + 2)) (stackByte s (s.cpu.sp + 1)) + 1, sp := s.cpu.sp + 2 } } := by
  have twoUp : s.cpu.sp + 1 + 1 = s.cpu.sp + 2 := add_assoc _ _ _
  rw [returnFromSubroutine, s.pullWord_eq, twoUp]
  rfl

/-- Settles O17: the rows of the encoder's table, a call as a push of two bytes and a jump, and a return as a pull of
two bytes. -/
theorem subroutineCallAndReturn : Obligations.SubroutineCallAndReturn :=
  ⟨⟨encodedAs_encodings .jsr, encodedAs_encodings .rts⟩, fun s =>
    ⟨fun a => callTo_abs a s, congrArg Host.Outcome.next (returnFromSubroutine_eq (s.setCycles 6))⟩⟩

/-! ## Branches -/

/-- The operand of a branch is extended by its sign (R9, R141): with bit 7 set, the high byte is all ones. -/
theorem sext16_eq_signExtend (r : Byte) : sext16 r = r.signExtend 16 := by
  rw [sext16, ← r.msb_eq_getLsbD_last]
  cases sign : r.msb with
  | false => exact (BitVec.signExtend_eq_setWidth_of_msb_false sign).symm
  | true =>
    have highOnes : 2 ^ 8 * 0xFF + r.toNat = 2 ^ 8 * 0xFF ||| r.toNat := Nat.two_pow_add_eq_or_of_lt r.isLt 0xFF
    have wide : (r.setWidth 16).toNat = r.toNat := toNat_zext16 r
    apply BitVec.eq_of_toNat_eq
    rw [if_pos rfl, BitVec.toNat_or, BitVec.toNat_signExtend, wide, sign, if_pos rfl, Nat.add_comm]
    exact highOnes.symm

/-- The address a branch adds up is its target as a signed sum modulo 65536 (R141). -/
theorem add_sext16_eq_branchTarget (s : State) (r : Byte) : s.cpu.pc + sext16 r = branchTarget s r := by
  rw [branchTarget, BitVec.ofInt_add, BitVec.ofInt_natCast, BitVec.ofNat_toNat, BitVec.setWidth_eq,
    sext16_eq_signExtend, BitVec.signExtend]

theorem page_eq_iff (a b : Addr) : page a = page b ↔ a.toNat / 256 = b.toNat / 256 := by
  rw [← BitVec.toNat_inj, toNat_page, toNat_page]

/-- An instruction that runs as a branch on `cond` branches when `cond` holds of `P` (R226). -/
theorem branchesWhen_of_branchOp {i : Instr} {s : State} {r : Byte} {cond : Byte → Bool}
    (run : exec i s = branchOp cond r s) : BranchesWhen i s r (cond s.cpu.p) := by
  rw [BranchesWhen, run, branchOp, add_sext16_eq_branchTarget]
  simp only [ne_eq, ite_not, page_eq_iff]
  split <;> rfl

/-- Settles O18: the rows of the encoder's table, and each mnemonic as a branch on its flag. -/
theorem branchesTestOneFlag : Obligations.BranchesTestOneFlag :=
  ⟨⟨encodedAs_encodings .bcc, encodedAs_encodings .bcs, encodedAs_encodings .beq, encodedAs_encodings .bne,
      encodedAs_encodings .bmi, encodedAs_encodings .bpl, encodedAs_encodings .bvc, encodedAs_encodings .bvs⟩,
    fun _ _ => ⟨branchesWhen_of_branchOp (cond := fun p => !flagC p) rfl, branchesWhen_of_branchOp (cond := flagC) rfl,
      branchesWhen_of_branchOp (cond := flagZ) rfl, branchesWhen_of_branchOp (cond := fun p => !flagZ p) rfl,
      branchesWhen_of_branchOp (cond := flagN) rfl, branchesWhen_of_branchOp (cond := fun p => !flagN p) rfl,
      branchesWhen_of_branchOp (cond := fun p => !flagV p) rfl, branchesWhen_of_branchOp (cond := flagV) rfl⟩⟩

end Sys2Proof.Machine

/-! Proofs of the flag and system family: what the flag instructions make of `P`, that `NOP` and the illegal opcodes
change the cycle counter alone, and that the returns take from the stack what an entry or a call put there. -/

namespace Sys2Proof.Machine

open Sys2Proof.Stated

/-! ## Exception entry and return in the words of the statements -/

/-- The read-only path does not depend on the CPU's registers. -/
theorem wordAt_withCpu (s : State) (c : Cpu) (a : Addr) : wordAt { s with cpu := c } a = wordAt s a := by
  simp only [wordAt, State.cpuPeek_eq, State.memRead_withCpu]

/-- Taking an exception pushes `PC`, high byte first, and the status image, sets I and goes to the word at the vector
(R248, R270). -/
theorem takeException_eq_pushed (s : State) {v : Addr} (image : Byte) (h : 0x4018 ≤ v.toNat) (h' : v.toNat < 0xFFFF) :
    s.takeException v image = { s with
      cpu := { s.cpu with sp := s.cpu.sp - 3, p := setI true s.cpu.p, pc := wordAt s v }
      bus := { s.bus with ram := pushed s.bus.ram s.cpu.sp [page s.cpu.pc, lowByte s.cpu.pc, image] } } := by
  have threeDown : s.cpu.sp - 1 - 1 - 1 = s.cpu.sp - 3 := by bv_omega
  rw [s.takeException_eq image h h', threeDown]
  rfl

/-- `BRK` enters through the IRQ vector from the address after its padding byte, B and U set in the image (R248). -/
theorem exec_brk (s : State) :
    exec .brk s = .next { s with
      cpu := { s.cpu with sp := s.cpu.sp - 3, p := setI true s.cpu.p, pc := wordAt s irqVector, cycles := 7 }
      bus := { s.bus with
        ram := pushed s.bus.ram s.cpu.sp [page (s.cpu.pc + 1), lowByte (s.cpu.pc + 1), softImage s.cpu.p] } } := by
  have vector : wordAt ((s.setCycles 7).setPc (s.cpu.pc + 1)) irqVector = wordAt s irqVector := wordAt_withCpu s _ _
  rw [← vector]
  exact congrArg Host.Outcome.next (takeException_eq_pushed _ _ (by decide) (by decide))

/-- NMI entry leaves the interrupted `PC` and the status with B clear and U set on the stack (R270, R271). -/
theorem nmi_eq_pushed (s : State) :
    s.nmi = { s with
      cpu := { s.cpu with
        sp := s.cpu.sp - 3, p := setB false (setI true s.cpu.p), pc := wordAt s nmiVector, cycles := 8 }
      bus := { s.bus with
        ram := pushed s.bus.ram s.cpu.sp [page s.cpu.pc, lowByte s.cpu.pc, interruptImage s.cpu.p] } } := by
  rw [State.nmi, State.enter, takeException_eq_pushed s _ (by decide) (by decide)]
  rfl

/-- A return from an exception takes the status and then `PC`, low byte first, from the three bytes above the stack
pointer (R249, R280). -/
theorem returnFromException_eq_stackBytes (s : State) :
    s.returnFromException = { s with
      cpu := { s.cpu with
        sp := s.cpu.sp + 3, p := pulledStatus (stackByte s (s.cpu.sp + 1)),
        pc := joinBytes (stackByte s (s.cpu.sp + 3)) (stackByte s (s.cpu.sp + 2)) } } := by
  have twoUp : s.cpu.sp + 1 + 1 = s.cpu.sp + 2 := add_assoc _ _ _
  have threeUp : s.cpu.sp + 2 + 1 = s.cpu.sp + 3 := add_assoc _ _ _
  rw [s.returnFromException_eq, twoUp, threeUp]
  rfl

/-! ## The flag instructions -/

theorem flagsAre_setC (b : Bool) (q : Byte) :
    FlagsAre (setC b q) q (flagN q) (flagV q) (flagD q) (flagI q) (flagZ q) b := by simp [FlagsAre]

theorem flagsAre_setI (b : Bool) (q : Byte) :
    FlagsAre (setI b q) q (flagN q) (flagV q) (flagD q) b (flagZ q) (flagC q) := by simp [FlagsAre]

theorem flagsAre_setD (b : Bool) (q : Byte) :
    FlagsAre (setD b q) q (flagN q) (flagV q) b (flagI q) (flagZ q) (flagC q) := by simp [FlagsAre]

theorem flagsAre_setV (b : Bool) (q : Byte) :
    FlagsAre (setV b q) q (flagN q) b (flagD q) (flagI q) (flagZ q) (flagC q) := by simp [FlagsAre]

/-- Settles O19: the rows of the encoder's table, and each instruction as the change of its flag. -/
theorem flagInstructionsChangeOneFlag : Obligations.FlagInstructionsChangeOneFlag :=
  ⟨⟨encodedAs_encodings .clc, encodedAs_encodings .sec, encodedAs_encodings .cli, encodedAs_encodings .sei,
      encodedAs_encodings .cld, encodedAs_encodings .sed, encodedAs_encodings .clv⟩,
    fun _ =>
      ⟨⟨_, rfl, flagsAre_setC false _⟩, ⟨_, rfl, flagsAre_setC true _⟩, ⟨_, rfl, flagsAre_setI false _⟩,
        ⟨_, rfl, flagsAre_setI true _⟩, ⟨_, rfl, flagsAre_setD false _⟩, ⟨_, rfl, flagsAre_setD true _⟩,
        ⟨_, rfl, flagsAre_setV false _⟩⟩⟩

/-! ## `BRK` and `RTI` -/

/-- Settles O21: the row of the encoder's table, and `BRK` as exception entry with I the one flag changed. -/
theorem breakTakesTheVector : Obligations.BreakTakesTheVector :=
  ⟨encodedAs_encodings .brk, fun s => ⟨_, exec_brk s, flagsAre_setI true s.cpu.p⟩⟩

/-- Settles O22: the row of the encoder's table, and what the pulled status makes of the bits of `P`. -/
theorem returnFromInterruptPulls : Obligations.ReturnFromInterruptPulls :=
  ⟨encodedAs_encodings .rti, fun s =>
    ⟨_, congrArg Host.Outcome.next (returnFromException_eq_stackBytes (s.setCycles 6)), by simp⟩⟩

/-! ## Returns after entries -/

/-- Fewer pushes than there are bytes from `sp` down to `a` leave the byte at `a` alone. -/
theorem read_pushed_below (ram : Mem) (sp a : Byte) (bs : List Byte) (far : bs.length ≤ (sp - a).toNat) :
    Mem.read (pushed ram sp bs) (0x100 + a.toNat) = Mem.read ram (0x100 + a.toNat) := by
  induction bs generalizing ram sp with
  | nil => rfl
  | cons b bs ih =>
    rw [List.length_cons] at far
    have other : 0x100 + a.toNat ≠ 0x100 + sp.toNat := by bv_omega
    rw [pushed, ih _ _ (by bv_omega), Mem.read_write_other _ _ other]

/-- The first byte pushed is the one at the stack pointer, whatever fewer than 256 bytes are pushed after it. -/
theorem stackByte_of_pushed {s : State} {ram : Mem} {sp b : Byte} {bs : List Byte}
    (stack : s.bus.ram = pushed ram sp (b :: bs)) (short : bs.length < 256) : stackByte s sp = b := by
  have far : bs.length ≤ (sp - 1 - sp).toNat := by bv_omega
  rw [stackByte, stack, pushed, read_pushed_below _ _ _ _ far, Mem.read_write_same]

/-- A return from an exception finds the status and `PC` that were pushed last (R280). -/
theorem returnFromException_cpu_of_pushed {s : State} {ram : Mem} {sp image : Byte} {pc : Addr}
    (stack : s.bus.ram = pushed ram sp [page pc, lowByte pc, image]) (below : s.cpu.sp = sp - 3) :
    s.returnFromException.cpu = { s.cpu with sp := sp, p := pulledStatus image, pc := pc } := by
  have up1 : sp - 3 + 1 = sp - 1 - 1 := by bv_omega
  have up2 : sp - 3 + 2 = sp - 1 := by bv_omega
  have high : stackByte s sp = page pc := stackByte_of_pushed stack (by simp)
  have low : stackByte s (sp - 1) = lowByte pc := stackByte_of_pushed (bs := [image]) stack (by simp)
  have status : stackByte s (sp - 1 - 1) = image := stackByte_of_pushed (bs := []) stack (by simp)
  rw [returnFromException_eq_stackBytes, below, up1, up2, sub_add_cancel, high, low, status, joinBytes_page_lowByte]

/-- `RTS` finds the address that was pushed last, and goes on one after it (R222). -/
theorem returnFromSubroutine_cpu_of_pushed {s : State} {ram : Mem} {sp : Byte} {pc : Addr}
    (stack : s.bus.ram = pushed ram sp [page pc, lowByte pc]) (below : s.cpu.sp = sp - 2) :
    (returnFromSubroutine s).cpu = { s.cpu with sp := sp, pc := pc + 1 } := by
  have up1 : sp - 2 + 1 = sp - 1 := by bv_omega
  have high : stackByte s sp = page pc := stackByte_of_pushed stack (by simp)
  have low : stackByte s (sp - 1) = lowByte pc := stackByte_of_pushed (bs := []) stack (by simp)
  rw [returnFromSubroutine_eq, below, up1, sub_add_cancel, high, low, joinBytes_page_lowByte]

/-- Settles O36: each return finds on the stack what the entry or the call pushed, and the status image pulls back as
the status with B 0 and U 1. -/
theorem returnsUndoEntries : Obligations.ReturnsUndoEntries := by
  intro s hb hu
  refine ⟨⟨_, _, exec_brk s, rfl, ?brk⟩, ⟨_, rfl, ?nmi⟩, fun a => ⟨_, _, callTo_abs a s, rfl, ?call⟩⟩
  case brk =>
    rw [returnFromException_cpu_of_pushed rfl rfl, pulledStatus_softImage hb hu]
    rfl
  case nmi =>
    rw [nmi_eq_pushed, returnFromException_cpu_of_pushed rfl rfl, pulledStatus_interruptImage hb hu]
    rfl
  case call =>
    rw [returnFromSubroutine_cpu_of_pushed rfl rfl, sub_add_cancel]
    rfl

/-! ## The encoding of an illegal opcode -/

/-- An illegal opcode is its own opcode byte, in the one-byte format, and one of the 105 (R112). -/
theorem illegal_encoding {i : Instr} {op : Byte} (illegal : i.line.mnem = .ill op) :
    i.opcode = op ∧ i.line.mode.format = .imp ∧ ∃ r ∈ illegalOpcodes, r.1 = op := by
  obtain ⟨row, -⟩ := i.encoding_mem
  rw [illegal] at row
  obtain ⟨r, mem, same⟩ := List.mem_map.mp row
  obtain ⟨listed, selected⟩ := List.mem_filter.mp mem
  have isOp : r.1 = op := beq_iff_eq.mp selected
  have opcode : r.1 = i.opcode := congrArg (·.1) same
  have format : .imp = i.line.mode.format := congrArg (·.2.1) same
  exact ⟨opcode.symm.trans isOp, format.symm, r, listed, isOp⟩

theorem encode_illegal {i : Instr} {op : Byte} (illegal : i.line.mnem = .ill op) : encode i = [op] := by
  obtain ⟨opcode, format, -⟩ := illegal_encoding illegal
  have operands : i.line.mode.operandBytes.length + 1 = 1 := by rw [i.line.mode.operandBytes_length, format]; rfl
  rw [encode_eq_cons, opcode, List.eq_nil_of_length_eq_zero (Nat.succ.inj operands)]

theorem length_illegal {i : Instr} {op : Byte} (illegal : i.line.mnem = .ill op) : i.length = 1 := by
  rw [← encode_length, encode_illegal illegal]
  rfl

/-! ## The argument `ILLEGAL_CYCLES` -/

theorem getElem?_mapEntries {α β : Type} {n : Nat} (f : α → β) (v : Vector α n) (k : Nat) :
    (mapEntries f v)[k]? = v[k]?.map f := by
  simp [mapEntries]

/-- A search that some entry meets ends at an entry that meets it. -/
theorem getElem?_findIdx {α : Type} {n : Nat} (v : Vector α n) (p : α → Bool)
    (found : ∃ x ∈ v.toList, p x = true) :
    ∃ x, v[v.toList.findIdx p]? = some x ∧ p x = true := by
  have inside := List.findIdx_lt_length_of_exists found
  refine ⟨v.toList[v.toList.findIdx p], ?_, List.findIdx_getElem⟩
  rw [← Vector.getElem?_toList, List.getElem?_eq_getElem inside]

/-- The argument `ILLEGAL_CYCLES` that gives each illegal byte the cost `cost` of it, less 1. -/
def illegalCyclesOf (cost : Byte → Fin 8) : IllegalCycles := mapEntries (mapEntries fun r => cost r.1) illegalRows

/-- The look-up of an illegal byte in `ILLEGAL_CYCLES` finds the entry that was made from it (R6, R112). -/
theorem illegalCycles_of {q : Params} {cost : Byte → Fin 8} (made : q.illegalCycles = illegalCyclesOf cost)
    {op : Byte} (listed : ∃ r ∈ illegalOpcodes, r.1 = op) : illegalCycles q op = (cost op).val + 1 := by
  obtain ⟨r, mem, rfl⟩ := listed
  obtain ⟨R, rowMem, entryMem⟩ := List.mem_flatMap.mp mem
  obtain ⟨row, atRow, hasEntry⟩ := getElem?_findIdx illegalRows (·.toList.any (·.1 == r.1))
    ⟨R, rowMem, List.any_eq_true.mpr ⟨r, entryMem, beq_self_eq_true _⟩⟩
  obtain ⟨entry, atColumn, same⟩ := getElem?_findIdx row (·.1 == r.1) (List.any_eq_true.mp hasEntry)
  simp only [illegalCycles, made, illegalCyclesOf, getElem?_mapEntries, atRow, atColumn, Option.map_some,
    Option.getD_some, Option.bind_some, beq_iff_eq.mp same]

/-! ## `NOP` and the illegal opcodes -/

/-- Settles O20: an illegal opcode is its own byte, an argument is made from any costs by the table's layout, and the
rows of the opcode matrix are counted. -/
theorem nopAndIllegalChangeNothing : Obligations.NopAndIllegalChangeNothing := by
  refine ⟨encodedAs_encodings .nop, fun _ => rfl, fun i op illegal => ?illegal, fun cost => ?costs, ?count⟩
  case illegal =>
    refine ⟨encode_illegal illegal, length_illegal illegal, illegalCycles_default illegal, fun s => ?_⟩
    refine ⟨?_, illegalCycles_bounds s.params op⟩
    rw [exec_eq_run, illegal]
    rfl
  case costs =>
    refine ⟨{ Params.default with illegalCycles := illegalCyclesOf cost }, fun i op illegal => ?_⟩
    obtain ⟨-, -, listed⟩ := illegal_encoding illegal
    exact illegalCycles_of rfl listed
  case count => decide

end Sys2Proof.Machine

/-! Proofs of the exceptions family: what interrupt entry does, what the two polls make of the latches, and what a step
does to the raster and to a vblank NMI. -/

namespace Sys2Proof.Machine

open Sys2Proof.Stated

/-! ## The raster in a step -/

/-- The raster position and the NMI latch are the same in `s` and `t`: neither the CPU nor a DMA slot reaches them. -/
structure State.SameRaster (s t : State) : Prop where
  scanline : t.ppu.scanline = s.ppu.scanline
  dot : t.ppu.dot = s.ppu.dot
  nmi : t.ppu.nmi = s.ppu.nmi

namespace State.SameRaster

variable {s t u : State}

theorem of_ppu (h : t.ppu = s.ppu) : s.SameRaster t := ⟨by rw [h], by rw [h], by rw [h]⟩

theorem trans (h : s.SameRaster t) (k : t.SameRaster u) : s.SameRaster u :=
  ⟨k.scanline.trans h.scanline, k.dot.trans h.dot, k.nmi.trans h.nmi⟩

theorem ppuMemWrite (s : State) (m : Mirror) (a : Nat) (d : Byte) :
    s.SameRaster { s with ppu := s.ppu.memWrite m a d } := by
  unfold Ppu.memWrite
  split
  · exact of_ppu rfl
  · split <;> exact ⟨rfl, rfl, rfl⟩

theorem ppuWrite (s : State) (a : BitVec 14) (d : Byte) : s.SameRaster (s.ppuWrite a d) := by
  unfold State.ppuWrite
  split
  · exact ppuMemWrite s _ _ d
  · dsimp only
    split
    · exact of_ppu rfl
    · exact ppuMemWrite s _ _ d

/-- No register holds the raster or the latch (R342). -/
theorem ppuRegWrite (s : State) (r : Nat) (d : Byte) : s.SameRaster (s.ppuRegWrite r d) := by
  unfold State.ppuRegWrite
  split
  case h_5 => unfold Ppu.writeScroll; split <;> exact ⟨rfl, rfl, rfl⟩
  case h_6 => unfold Ppu.writeAddr; split <;> exact ⟨rfl, rfl, rfl⟩
  case h_7 => exact (ppuWrite s _ d).trans ⟨rfl, rfl, rfl⟩
  all_goals exact ⟨rfl, rfl, rfl⟩

theorem memWrite (s : State) (a : Addr) (d : Byte) : s.SameRaster (s.memWrite a d) := by
  by_cases device : 0x2000 ≤ a.toNat ∧ a.toNat < 0x4000
  · rw [s.memWrite_ppuWindow d device.1 device.2]
    exact ppuRegWrite s _ d
  by_cases off : a.toNat < 0x2000 ∨ 0x4018 ≤ a.toNat
  · exact of_ppu (s.memWrite_offDevices d off).1
  · rw [s.memWrite_low d (by omega), State.busWrite]
    dsimp only
    rw [if_neg (by omega), if_neg (by omega)]
    split
    · exact of_ppu rfl
    split
    · exact of_ppu rfl
    split <;> exact of_ppu rfl

theorem accessClosed : AccessClosed State.SameRaster where
  trans := trans
  cpu _ _ := of_ppu rfl
  read s a := by
    have frame := (s.memRead_frame a).ppu
    exact ⟨by rw [frame], by rw [frame], by rw [frame]⟩
  write := memWrite

theorem slot (h : s.slot = .next t) : s.SameRaster t :=
  accessClosed.slot (fun _ _ _ _ _ => of_ppu rfl) (fun _ _ _ => ⟨rfl, rfl, rfl⟩) h

end State.SameRaster

/-- Every step goes on to the end of its slot (R261, R305). -/
theorem step_next (s : State) : ∃ u, s.beforeSlot.slot = .next u ∧ step s = .next u.afterSlot := by
  obtain ⟨u, hu⟩ := s.beforeSlot.slot_goes_on
  exact ⟨u, hu, step_eq hu⟩

/-- Settles O39: the slot goes on, and the rest of a step is functions of the state. -/
theorem everyStepGoesOn : Obligations.EveryStepGoesOn := fun s =>
  let ⟨_, _, next⟩ := step_next s
  ⟨_, next⟩

/-- A step leaves the raster where its clock moves it (R305, R360). -/
theorem step_position {s t : State} (h : step s = .next t) :
    t.ppu.dot = (if s.ppu.dot + 1 = 341 then 0 else s.ppu.dot + 1)
      ∧ t.ppu.scanline = (if s.ppu.dot + 1 = 341 then if s.ppu.scanline + 1 = 261 then -1 else s.ppu.scanline + 1
          else s.ppu.scanline) := by
  obtain ⟨u, hu, rfl⟩ := step_cases h
  have kept := State.SameRaster.slot hu
  obtain ⟨ppu, -⟩ := u.afterSlot_facts
  rw [ppu]
  exact ⟨kept.dot.trans (s.ppu.clock_position _ _).1, kept.scanline.trans (s.ppu.clock_position _ _).2⟩

/-- One step moves the position on by one, from the last dot to the first (R362). -/
theorem step_rasterPos {s t : State} (hs : OnRaster s) (h : step s = .next t) :
    OnRaster t ∧ rasterPos t = (rasterPos s + 1) % 89342 := by
  obtain ⟨low, high, last⟩ := hs
  obtain ⟨dot, line⟩ := step_position h
  simp only [OnRaster, rasterPos, dot, line]
  split
  · split <;> refine ⟨⟨?_, ?_, ?_⟩, ?_⟩ <;> omega
  · refine ⟨⟨?_, ?_, ?_⟩, ?_⟩ <;> omega

/-- A run of `k + 1` steps is a step and a run of `k`. -/
theorem run_succ (k : Nat) {s u : State} (h : step s = .next u) : core.run (k + 1) s = core.run k u := by
  have first : core.step s = .next u := h
  simp only [Host.Core.run, first]

/-- Settles O49, by induction on the number of steps. -/
theorem rasterAdvancesOneDotAStep : Obligations.RasterAdvancesOneDotAStep := by
  intro k
  induction k with
  | zero =>
    intro s t hs h
    cases h
    obtain ⟨low, high, last⟩ := hs
    refine ⟨⟨low, high, last⟩, ?_⟩
    unfold rasterPos
    omega
  | succ k ih =>
    intro s t hs h
    obtain ⟨u, -, next⟩ := step_next s
    rw [run_succ k next] at h
    obtain ⟨on, moved⟩ := step_rasterPos hs next
    obtain ⟨on', moved'⟩ := ih _ t on h
    refine ⟨on', ?_⟩
    rw [moved', moved]
    push_cast
    omega

/-! ## Interrupt entry -/

/-- Interrupt entry: `PC` and the interrupt image on the stack, I set, B cleared, `PC` from the vector (R270). -/
theorem enter_eq_pushed (s : State) {v : Addr} (cost : Nat) (h : 0x4018 ≤ v.toNat) (h' : v.toNat < 0xFFFF) :
    s.enter v cost = { s with
      cpu := { s.cpu with
        sp := s.cpu.sp - 3, p := setB false (setI true s.cpu.p), pc := wordAt s v, cycles := cost }
      bus := { s.bus with
        ram := pushed s.bus.ram s.cpu.sp [page s.cpu.pc, lowByte s.cpu.pc, interruptImage s.cpu.p] } } := by
  rw [State.enter, takeException_eq_pushed s _ h h']
  rfl

theorem State.irq_masked {s : State} (h : flagI s.cpu.p = true) : s.irq = s := if_pos h

theorem State.irq_unmasked {s : State} (h : flagI s.cpu.p = false) : s.irq = s.enter irqVector 7 := if_neg (by simp [h])

/-- Settles O31: the status after entry differs from the one before in I and B alone. -/
theorem interruptEntry : Obligations.InterruptEntry := by
  intro s q enters
  have entered : ∀ (v : Addr) (cost : Nat), 0x4018 ≤ v.toNat → v.toNat < 0xFFFF → enters (s.enter v cost) v cost :=
    fun v cost h h' => ⟨_, enter_eq_pushed s cost h h', by simp [q]⟩
  refine ⟨entered nmiVector 8 (by decide) (by decide), fun unmasked => ?_, State.irq_masked⟩
  rw [State.irq_unmasked unmasked]
  exact entered irqVector 7 (by decide) (by decide)

/-! ## The polls -/

theorem Cart.irqState_irqClear (c : Cart) : c.irqClear.irqState = false := by
  obtain ⟨pb, cb, id, hw, prg, chr, mapper⟩ := c
  cases mapper <;> rfl

/-- A poll that finds the flag up clears it and calls `IRQ()` (R263, R274). -/
theorem State.pollIrq_up {s : State} {c : Cart} (hc : s.cart = some c) (up : c.irqState = true) :
    s.pollIrq = ({ s with cart := some c.irqClear } : State).irq := by
  unfold State.pollIrq
  rw [hc]
  exact if_pos up

/-- While I is 1 the IRQ poll leaves the CPU and every memory as they are (R272, R274). -/
theorem State.pollIrq_masked {s : State} (masked : flagI s.cpu.p = true) :
    s.pollIrq = { s with cart := s.cart.map Cart.irqClear } := by
  have same : s.pollIrq.cpu = s.cpu ∧ s.pollIrq.bus.ram = s.bus.ram := by
    unfold State.pollIrq
    split
    · exact ⟨rfl, rfl⟩
    · split
      · next c _ _ =>
        rw [State.irq_masked (s := { s with cart := some c.irqClear }) masked]
        exact ⟨rfl, rfl⟩
      · exact ⟨rfl, rfl⟩
  rw [s.pollIrq_frame, same.1, same.2]

/-- Settles O32: the poll's clear stands whatever `IRQ()` does, and the poll is the last that reaches the flag in a
step. -/
theorem maskedIrqIsLost : Obligations.MaskedIrqIsLost := by
  constructor
  · intro s c hc up
    refine ⟨?_, c.irqState_irqClear, fun masked => ?_, fun _ => State.pollIrq_up hc up⟩
    · rw [s.pollIrq_frame, hc, Option.map_some]
    · rw [State.pollIrq_masked masked, hc, Option.map_some]
  · intro s t c h hc
    obtain ⟨u, -, rfl⟩ := step_cases h
    obtain ⟨-, -, -, cart, -⟩ := u.afterSlot_facts
    rw [cart] at hc
    obtain ⟨c, -, rfl⟩ := Option.map_eq_some_iff.mp hc
    exact c.irqState_irqClear

/-! ## The vblank NMI -/

/-- What the read-only path shows at a vector depends on the cartridge alone. -/
theorem wordAt_vector {s t : State} {v : Addr} (h : 0x4018 ≤ v.toNat) (h' : v.toNat < 0xFFFF) (cart : t.cart = s.cart) :
    wordAt t v = wordAt s v := by
  have next : 0x4018 ≤ (v + 1).toNat := by bv_omega
  rw [wordAt, wordAt, State.cpuPeek_high h cart, State.cpuPeek_high next cart]

theorem State.pollNmi_up {s : State} (up : s.ppu.nmi = true) :
    s.pollNmi = ({ s with ppu := { s.ppu with nmi := false } } : State).nmi := if_pos up

/-- When the slot ends with the latch up, the rest of the step delivers the NMI to the CPU as the slot left it, and an
IRQ that is up too finds I set (R263, R277). -/
theorem State.afterSlot_nmi {u : State} (latch : u.ppu.nmi = true) :
    u.afterSlot.cpu = { u.cpu with
        sp := u.cpu.sp - 3, p := setB false (setI true u.cpu.p), pc := wordAt u nmiVector, cycles := 8 }
      ∧ u.afterSlot.bus.ram = pushed u.bus.ram u.cpu.sp [page u.cpu.pc, lowByte u.cpu.pc, interruptImage u.cpu.p] := by
  have up : u.audioTick.ppu.nmi = true := by rw [u.audioTick_ppu]; exact latch
  have ram : u.audioTick.bus.ram = u.bus.ram := by rw [u.audioTick_frame]
  have vector : wordAt ({ u.audioTick with ppu := { u.audioTick.ppu with nmi := false } } : State) nmiVector
      = wordAt u nmiVector := wordAt_vector (by decide) (by decide) u.audioTick_cart
  have delivered := State.pollNmi_up up
  rw [nmi_eq_pushed, vector] at delivered
  have masked : flagI u.audioTick.pollNmi.cpu.p = true := by rw [delivered]; simp
  rw [State.afterSlot, State.countStep, State.pollIrq_masked masked, delivered]
  simp only [State.audioTick_cpu, ram, and_self]

/-- Settles O33: the clock raises the latch, the slot does not reach it, and the NMI poll comes before the IRQ poll. -/
theorem vblankDeliversNmi : Obligations.VblankDeliversNmi := by
  intro s line dot enabled
  obtain ⟨u, hu, next⟩ := step_next s
  have latch : u.ppu.nmi = true := by
    rw [(State.SameRaster.slot hu).nmi, s.beforeSlot_ppu, Ppu.clock_nmi, Ppu.nmiEnable, enabled]
    simp [line, dot]
  obtain ⟨cpu, ram⟩ := State.afterSlot_nmi latch
  obtain ⟨ppu, -⟩ := u.afterSlot_facts
  exact ⟨u, u.afterSlot, hu, next, by rw [cpu]; rfl, by rw [cpu], by rw [cpu], by rw [cpu]; simp, by rw [ppu], ram⟩

end Sys2Proof.Machine

/-! Proofs of the bus family, the DMA unit: one slot, and a whole transfer as what a slot makes of the transfer while
nothing else that it depends on moves. -/

namespace Sys2Proof.Machine

open Sys2Proof.Stated

/-! ## One slot -/

theorem joinBytes_eq_ofNat (hi lo : Byte) : joinBytes hi lo = BitVec.ofNat 16 (hi.toNat * 256 + lo.toNat) := by
  have := hi.isLt
  have := lo.isLt
  apply BitVec.eq_of_toNat_eq
  rw [toNat_joinBytes, BitVec.toNat_ofNat, Nat.mod_eq_of_lt (by omega)]

theorem State.slot_armed {s : State} (h : s.bus.n % 3 = 0) (armed : s.bus.dmaArmed = true) : s.slot = .next s.dmaStep := by
  simp only [State.slot, h, armed, if_true]

theorem State.slot_between {s : State} (h : s.bus.n % 3 ≠ 0) : s.slot = .next s := if_neg h

/-- The dummy phase ends in an odd slot (R313). -/
theorem State.dmaStep_dummy {s : State} (dummy : s.bus.dmaDummy = true) :
    s.dmaStep = { s with bus := { s.bus with dmaDummy := decide (s.bus.n % 2 = 0) } } := by
  unfold State.dmaStep
  rw [if_pos dummy]
  rcases Nat.mod_two_eq_zero_or_one s.bus.n with even | odd
  · simp [even, ← dummy]
  · simp [odd]

/-- An even slot reads (R312). -/
theorem State.dmaStep_even {s : State} (copying : s.bus.dmaDummy = false) (even : s.bus.n % 2 = 0) :
    s.dmaStep = { (s.memRead (joinBytes s.bus.dmaPage s.bus.dmaAddr)).st with
      bus := { (s.memRead (joinBytes s.bus.dmaPage s.bus.dmaAddr)).st.bus with
        dmaData := (s.memRead (joinBytes s.bus.dmaPage s.bus.dmaAddr)).val } } := by
  unfold State.dmaStep
  rw [if_neg (by simp [copying]), if_pos even]

/-- An odd slot writes and moves on, and the last disarms (R312, R313). -/
theorem State.dmaStep_odd {s : State} (copying : s.bus.dmaDummy = false) (odd : s.bus.n % 2 = 1) :
    s.dmaStep = { s with
      ppu := { s.ppu with oam := Mem.write s.ppu.oam s.bus.dmaAddr.toNat s.bus.dmaData }
      bus := { s.bus with
        dmaAddr := BitVec.ofNat 8 (s.bus.dmaAddr.toNat + 1), dmaArmed := decide (s.bus.dmaAddr.toNat ≠ 255),
        dmaDummy := decide (s.bus.dmaAddr.toNat = 255) } } := by
  have next : s.bus.dmaAddr + 1 = BitVec.ofNat 8 (s.bus.dmaAddr.toNat + 1) := by bv_omega
  have wraps : s.bus.dmaAddr + 1 = 0 ↔ s.bus.dmaAddr.toNat = 255 := by bv_omega
  have disarms : (s.bus.dmaAddr + 1 == 0) = decide (s.bus.dmaAddr.toNat = 255) := by
    rw [beq_eq_decide, decide_eq_decide]
    exact wraps
  have stays : (s.bus.dmaAddr + 1 != 0) = decide (s.bus.dmaAddr.toNat ≠ 255) := by
    rw [bne, disarms, ← decide_not]
  unfold State.dmaStep
  rw [if_neg (by simp [copying]), if_neg (by omega)]
  simp only [disarms, stays]
  rw [← next]

/-- Settles O40: the write decodes to the trigger, and the slot is a DMA slot in one of its three kinds. -/
theorem dmaSlot : Obligations.DmaSlot := by
  refine ⟨fun s v => by rw [s.memWrite_low v (by decide)]; rfl, fun s slot armed => ?_⟩
  refine ⟨_, State.slot_armed slot armed, s.dmaStep_cpu, State.dmaStep_dummy, fun copying even => ?_, State.dmaStep_odd⟩
  rw [← joinBytes_eq_ofNat]
  exact State.dmaStep_even copying even

/-! ## What a transfer depends on -/

/-- What a transfer, the CPU and the bytes of memory outside device space are in `s` they are in `t`. -/
structure State.Still (s t : State) : Prop where
  cpu : t.cpu = s.cpu
  ram : t.bus.ram = s.bus.ram
  reads : ∀ a, t.cart.bind (·.cpuRead a) = s.cart.bind (·.cpuRead a)
  oamAddr : t.ppu.oamAddr = s.ppu.oamAddr
  oam : t.ppu.oam = s.ppu.oam
  armed : t.bus.dmaArmed = s.bus.dmaArmed
  dummy : t.bus.dmaDummy = s.bus.dmaDummy
  page : t.bus.dmaPage = s.bus.dmaPage
  addr : t.bus.dmaAddr = s.bus.dmaAddr
  data : t.bus.dmaData = s.bus.dmaData

theorem State.Still.trans {s t u : State} (h : s.Still t) (k : t.Still u) : s.Still u where
  cpu := k.cpu.trans h.cpu
  ram := k.ram.trans h.ram
  reads a := (k.reads a).trans (h.reads a)
  oamAddr := k.oamAddr.trans h.oamAddr
  oam := k.oam.trans h.oam
  armed := k.armed.trans h.armed
  dummy := k.dummy.trans h.dummy
  page := k.page.trans h.page
  addr := k.addr.trans h.addr
  data := k.data.trans h.data

/-- The source page of a transfer is not in device space (R316). -/
abbrev State.OffDevices (s : State) : Prop := s.bus.dmaPage.toNat < 0x20 ∨ 0x41 ≤ s.bus.dmaPage.toNat

/-- Outside device space the read-only path depends on RAM and the cartridge alone (R61). -/
theorem cpuPeek_offDevices {s t : State} {a : Addr} (off : a.toNat < 0x2000 ∨ 0x4018 ≤ a.toNat)
    (ram : t.bus.ram = s.bus.ram) (reads : t.cart.bind (·.cpuRead a) = s.cart.bind (·.cpuRead a)) :
    t.cpuPeek a = s.cpuPeek a := by
  refine State.cpuPeek_congr reads ?_
  rcases off with low | high
  · rw [State.busRead_val, State.busRead_val, if_pos low, if_pos low, ram]
  · rw [State.busRead_high _ high, State.busRead_high _ high]

theorem State.OffDevices.source {s : State} (h : s.OffDevices) :
    (joinBytes s.bus.dmaPage s.bus.dmaAddr).toNat < 0x2000 ∨ 0x4018 ≤ (joinBytes s.bus.dmaPage s.bus.dmaAddr).toNat := by
  have := s.bus.dmaAddr.isLt
  rw [toNat_joinBytes]
  unfold State.OffDevices at h
  omega

/-- Reading memory outside device space is the latch's one change (R75, R312). -/
theorem State.dmaStep_even_offDevices {s : State} (off : s.OffDevices) (copying : s.bus.dmaDummy = false)
    (even : s.bus.n % 2 = 0) :
    s.dmaStep = { s with bus := { s.bus with dmaData := s.cpuPeek (joinBytes s.bus.dmaPage s.bus.dmaAddr) } } := by
  have noEffect : readHasEffect (joinBytes s.bus.dmaPage s.bus.dmaAddr) = false := by
    have := off.source
    rw [← Bool.not_eq_true, readHasEffect_iff]
    omega
  rw [State.dmaStep_even copying even, State.memRead_of_noEffect s noEffect]

/-- A slot does the same to a transfer in two states that agree on what it depends on. -/
theorem State.Still.dmaStep {s t : State} (h : s.Still t) (off : s.OffDevices) (n : t.bus.n = s.bus.n) :
    s.dmaStep.Still t.dmaStep := by
  cases dummy : s.bus.dmaDummy with
  | true =>
    rw [State.dmaStep_dummy dummy, State.dmaStep_dummy (h.dummy.trans dummy), n]
    exact { h with dummy := rfl }
  | false =>
    have copying := h.dummy.trans dummy
    rcases Nat.mod_two_eq_zero_or_one s.bus.n with even | odd
    · have off' : t.OffDevices := by unfold State.OffDevices; rw [h.page]; exact off
      have peek : t.cpuPeek (joinBytes s.bus.dmaPage s.bus.dmaAddr) = s.cpuPeek (joinBytes s.bus.dmaPage s.bus.dmaAddr) :=
        cpuPeek_offDevices off.source h.ram (h.reads _)
      rw [State.dmaStep_even_offDevices off dummy even, State.dmaStep_even_offDevices off' copying (n ▸ even), h.page,
        h.addr, peek]
      exact { h with data := rfl }
    · rw [State.dmaStep_odd dummy odd, State.dmaStep_odd copying (n ▸ odd), h.oam, h.addr, h.data]
      exact { h with oam := rfl, armed := rfl, dummy := rfl, addr := rfl }

/-! ## Steps without interrupts -/

/-- The mapper's counter cannot raise a flag that is not enabled (R535). -/
theorem Cart.scanline_quiet {c : Cart} (h : ∀ m, c.mapper = .v4 m → m.irqEnable = false ∧ m.irqActive = false) :
    ∀ m, c.scanline.mapper = .v4 m → m.irqEnable = false ∧ m.irqActive = false := by
  obtain ⟨pb, cb, id, hw, prg, chr, mapper⟩ := c
  cases mapper with
  | v4 m =>
    obtain ⟨enable, active⟩ := h m rfl
    intro m' hm
    cases hm
    simp [Mapper4.scanline, enable, active]
  | _ => exact h

theorem noInterrupts_beforeSlot {s : State} (h : NoInterrupts s) : NoInterrupts s.beforeSlot := by
  obtain ⟨ctrl, nmi, mapper⟩ := h
  refine ⟨?_, ?_, fun c m hc hm => ?_⟩
  · rw [s.beforeSlot_ppu, (s.ppu.clock_frame _ _).ctrl]
    exact ctrl
  · rw [s.beforeSlot_ppu, Ppu.clock_nmi, nmi, Ppu.nmiEnable, ctrl, Bool.and_false, Bool.or_false]
  · rw [s.beforeSlot_cart] at hc
    split at hc
    · obtain ⟨c, hc', rfl⟩ := Option.map_eq_some_iff.mp hc
      exact Cart.scanline_quiet (fun m => mapper _ m hc') m hm
    · exact mapper c m hc hm

theorem State.still_beforeSlot (s : State) : s.Still s.beforeSlot := by
  have regs := s.ppu.clock_frame s.ppuRead s.params.leftClip
  refine ⟨rfl, rfl, fun a => ?_, regs.oamAddr, regs.oam, rfl, rfl, rfl, rfl, rfl⟩
  rw [s.beforeSlot_cart]
  split
  · cases s.cart with
    | none => rfl
    | some c => exact c.cpuRead_scanline a
  · rfl

theorem noInterrupts_irqState {s : State} (h : NoInterrupts s) {c : Cart} (hc : s.cart = some c) : c.irqState = false := by
  obtain ⟨-, -, mapper⟩ := h
  unfold Cart.irqState
  split
  · next m hm => exact (mapper c m hc hm).2
  · rfl

/-- With both latches down the rest of a step is audio timing and the count (R305). -/
theorem noInterrupts_afterSlot_eq {s : State} (h : NoInterrupts s) : s.afterSlot = s.audioTick.countStep := by
  have nmi : s.audioTick.pollNmi = s.audioTick := if_neg (by rw [s.audioTick_ppu, h.2.1]; decide)
  have irq : s.audioTick.pollIrq = s.audioTick := by
    unfold State.pollIrq
    split
    · rfl
    · next c hc =>
      rw [s.audioTick_cart] at hc
      rw [noInterrupts_irqState h hc]
      rfl
  rw [State.afterSlot, nmi, irq]

theorem noInterrupts_still_afterSlot {s : State} (h : NoInterrupts s) :
    s.Still s.afterSlot ∧ NoInterrupts s.afterSlot ∧ s.afterSlot.bus.n = s.bus.n + 1 := by
  rw [noInterrupts_afterSlot_eq h, State.countStep, State.audioTick_frame]
  exact ⟨⟨rfl, rfl, fun _ => rfl, rfl, rfl, rfl, rfl, rfl, rfl, rfl⟩, h, rfl⟩

theorem noInterrupts_dmaStep {s : State} (h : NoInterrupts s) (off : s.OffDevices) :
    NoInterrupts s.dmaStep ∧ s.dmaStep.bus.n = s.bus.n := by
  cases dummy : s.bus.dmaDummy with
  | true =>
    rw [State.dmaStep_dummy dummy]
    exact ⟨h, rfl⟩
  | false =>
    rcases Nat.mod_two_eq_zero_or_one s.bus.n with even | odd
    · rw [State.dmaStep_even_offDevices off dummy even]
      exact ⟨h, rfl⟩
    · rw [State.dmaStep_odd dummy odd]
      exact ⟨h, rfl⟩

/-- A step between two slots moves nothing that a transfer depends on. -/
theorem step_between {s : State} (h : NoInterrupts s) (between : s.bus.n % 3 ≠ 0) :
    ∃ u, step s = .next u ∧ s.Still u ∧ NoInterrupts u ∧ u.bus.n = s.bus.n + 1 := by
  obtain ⟨still, quiet, n⟩ := noInterrupts_still_afterSlot (noInterrupts_beforeSlot h)
  exact ⟨_, step_eq (State.slot_between between), s.still_beforeSlot.trans still, quiet, n⟩

/-- A step with a DMA slot does what the slot does. -/
theorem step_dma {s : State} (h : NoInterrupts s) (off : s.OffDevices) (slot : s.bus.n % 3 = 0)
    (armed : s.bus.dmaArmed = true) :
    ∃ u, step s = .next u ∧ s.dmaStep.Still u ∧ NoInterrupts u ∧ u.bus.n = s.bus.n + 1 := by
  obtain ⟨quiet, n⟩ := noInterrupts_dmaStep (noInterrupts_beforeSlot h) off
  obtain ⟨still, quiet', n'⟩ := noInterrupts_still_afterSlot quiet
  exact ⟨_, step_eq (State.slot_armed slot armed), (s.still_beforeSlot.dmaStep off rfl).trans still, quiet', n'.trans (by rw [n]; rfl)⟩

/-! ## Runs -/

theorem run_add (i j : Nat) {s u : State} (h : core.run i s = .next u) : core.run (i + j) s = core.run j u := by
  induction i generalizing s with
  | zero => cases h; rw [Nat.zero_add]
  | succ i ih =>
    obtain ⟨v, -, next⟩ := step_next s
    rw [run_succ i next] at h
    rw [Nat.add_right_comm, run_succ _ next, ih h]

/-- Three steps from a slot of an armed transfer do what the slot does, and end before the next slot. -/
theorem run_dmaSlot {s : State} (h : NoInterrupts s) (off : s.OffDevices) (slot : s.bus.n % 3 = 0)
    (armed : s.bus.dmaArmed = true) :
    ∃ u, core.run 3 s = .next u ∧ s.dmaStep.Still u ∧ NoInterrupts u ∧ u.bus.n = s.bus.n + 3 := by
  obtain ⟨a, stepA, stillA, quietA, nA⟩ := step_dma h off slot armed
  obtain ⟨b, stepB, stillB, quietB, nB⟩ := step_between quietA (by omega)
  obtain ⟨c, stepC, stillC, quietC, nC⟩ := step_between quietB (by omega)
  refine ⟨c, ?_, stillA.trans (stillB.trans stillC), quietC, by omega⟩
  rw [run_succ 2 stepA, run_succ 1 stepB, run_succ 0 stepC]
  rfl

/-! ## A whole transfer -/

/-- `t` stands before an even slot of a transfer started in `s`, `k` bytes of the page copied. -/
structure Copied (s : State) (k : Nat) (t : State) : Prop where
  cpu : t.cpu = s.cpu
  ram : t.bus.ram = s.bus.ram
  reads : ∀ a, t.cart.bind (·.cpuRead a) = s.cart.bind (·.cpuRead a)
  oamAddr : t.ppu.oamAddr = s.ppu.oamAddr
  page : t.bus.dmaPage = s.bus.dmaPage
  addr : t.bus.dmaAddr = BitVec.ofNat 8 k
  armed : t.bus.dmaArmed = decide (k ≠ 256)
  dummy : t.bus.dmaDummy = decide (k = 256)
  bytes : ∀ j, j < k → Mem.read t.ppu.oam j = s.cpuPeek (BitVec.ofNat 16 (s.bus.dmaPage.toNat * 256 + j))
  quiet : NoInterrupts t
  slot : t.bus.n % 6 = 0

/-- Two slots copy a byte (R312). -/
theorem Copied.succ {s t : State} {k : Nat} (off : s.OffDevices) (hk : k < 256) (h : Copied s k t) :
    ∃ u, core.run 6 t = .next u ∧ Copied s (k + 1) u := by
  have n6 := h.slot
  have copying : t.bus.dmaDummy = false := by rw [h.dummy]; exact decide_eq_false (by omega)
  have armed : t.bus.dmaArmed = true := by rw [h.armed]; exact decide_eq_true (by omega)
  have offT : t.OffDevices := by unfold State.OffDevices; rw [h.page]; exact off
  have index : t.bus.dmaAddr.toNat = k := by rw [h.addr, BitVec.toNat_ofNat]; omega
  have source : t.cpuPeek (joinBytes t.bus.dmaPage t.bus.dmaAddr)
      = s.cpuPeek (BitVec.ofNat 16 (s.bus.dmaPage.toNat * 256 + k)) := by
    rw [cpuPeek_offDevices offT.source h.ram (h.reads _), joinBytes_eq_ofNat, h.page, index]
  obtain ⟨a, runA, stillA, quietA, nA⟩ := run_dmaSlot h.quiet offT (by omega) armed
  rw [State.dmaStep_even_offDevices offT copying (by omega), source] at stillA
  have copyingA : a.bus.dmaDummy = false := stillA.dummy.trans copying
  have offA : a.OffDevices := by unfold State.OffDevices; rw [stillA.page]; exact offT
  obtain ⟨b, runB, stillB, quietB, nB⟩ := run_dmaSlot quietA offA (by omega) (stillA.armed.trans armed)
  have indexA : a.bus.dmaAddr.toNat = k := by rw [stillA.addr]; exact index
  rw [State.dmaStep_odd copyingA (by omega), indexA, stillA.data, stillA.oam] at stillB
  refine ⟨b, by rw [run_add 3 3 runA, runB], ?_⟩
  exact {
    cpu := stillB.cpu.trans (stillA.cpu.trans h.cpu)
    ram := stillB.ram.trans (stillA.ram.trans h.ram)
    reads := fun x => (stillB.reads x).trans ((stillA.reads x).trans (h.reads x))
    oamAddr := stillB.oamAddr.trans (stillA.oamAddr.trans h.oamAddr)
    page := stillB.page.trans (stillA.page.trans h.page)
    addr := stillB.addr
    armed := stillB.armed.trans (decide_eq_decide.mpr (by omega))
    dummy := stillB.dummy.trans (decide_eq_decide.mpr (by omega))
    bytes := fun j hj => by
      rw [stillB.oam, Mem.read_write]
      split
      · next same => rw [same]
      · exact h.bytes j (by omega)
    quiet := quietB
    slot := by omega }

/-- Copying the rest of the page. -/
theorem Copied.rest {s : State} (off : s.OffDevices) (m : Nat) :
    ∀ {k : Nat} {t : State}, k + m = 256 → Copied s k t → ∃ u, core.run (6 * m) t = .next u ∧ Copied s 256 u := by
  induction m with
  | zero =>
    intro k t hk h
    obtain rfl : k = 256 := hk
    exact ⟨t, rfl, h⟩
  | succ m ih =>
    intro k t hk h
    obtain ⟨u, run, next⟩ := h.succ off (by omega)
    obtain ⟨v, run', last⟩ := ih (by omega) next
    refine ⟨v, ?_, last⟩
    rw [show 6 * (m + 1) = 6 + 6 * m by omega, run_add _ _ run, run']

/-- A transfer just armed: in its dummy phase, from its first byte, outside device space, with no interrupt possible. -/
structure JustArmed (s : State) : Prop where
  slot : s.bus.n % 3 = 0
  armed : s.bus.dmaArmed = true
  dummy : s.bus.dmaDummy = true
  addr : s.bus.dmaAddr = 0
  off : s.OffDevices
  quiet : NoInterrupts s

/-- From an odd slot the dummy phase takes one slot, and copying one page follows (R313, R315). -/
theorem JustArmed.transfer {s : State} (h : JustArmed s) (odd : s.bus.n % 2 = 1) :
    ∃ t, core.run (3 * 513) s = .next t ∧ Copied s 256 t := by
  have n3 := h.slot
  obtain ⟨t, run, still, quiet, n⟩ := run_dmaSlot h.quiet h.off n3 h.armed
  rw [State.dmaStep_dummy h.dummy, odd] at still
  have first : Copied s 0 t := {
    cpu := still.cpu, ram := still.ram, reads := still.reads, oamAddr := still.oamAddr, page := still.page
    addr := still.addr.trans h.addr, armed := still.armed.trans h.armed, dummy := still.dummy
    bytes := fun _ hj => absurd hj (Nat.not_lt_zero _), quiet, slot := by omega }
  obtain ⟨u, run', last⟩ := first.rest h.off 256 rfl
  exact ⟨u, by rw [show 3 * 513 = 3 + 6 * 256 from rfl, run_add _ _ run, run'], last⟩

/-- Settles O41: an even first slot leaves the transfer as it is and an odd one begins it. -/
theorem dmaCopiesThePage : Obligations.DmaCopiesThePage := by
  intro s slot armed dummy addr off quiet
  have h : JustArmed s := ⟨slot, armed, dummy, addr, off, quiet⟩
  suffices ∃ t, core.run (3 * (if s.bus.n % 2 = 1 then 513 else 514)) s = .next t ∧ Copied s 256 t by
    obtain ⟨t, run, last⟩ := this
    exact ⟨t, run, last.bytes, last.armed, last.cpu, last.ram, last.oamAddr⟩
  rcases Nat.mod_two_eq_zero_or_one s.bus.n with even | odd
  · obtain ⟨a, run, still, quiet', n⟩ := run_dmaSlot quiet off slot armed
    rw [State.dmaStep_dummy dummy, even] at still
    have next : JustArmed a :=
      ⟨by omega, still.armed.trans armed, still.dummy, still.addr.trans addr, by
        unfold State.OffDevices; rw [still.page]; exact off, quiet'⟩
    obtain ⟨t, run', last⟩ := next.transfer (by omega)
    have bytes : ∀ j, j < 256 → a.cpuPeek (BitVec.ofNat 16 (s.bus.dmaPage.toNat * 256 + j))
        = s.cpuPeek (BitVec.ofNat 16 (s.bus.dmaPage.toNat * 256 + j)) := fun j hj =>
      cpuPeek_offDevices (by rw [BitVec.toNat_ofNat]; omega) still.ram (still.reads _)
    refine ⟨t, ?_, ?_⟩
    · rw [if_neg (by omega), show 3 * 514 = 3 + 3 * 513 from rfl, run_add _ _ run, run']
    · exact { last with
        cpu := last.cpu.trans still.cpu, ram := last.ram.trans still.ram
        reads := fun x => (last.reads x).trans (still.reads x)
        oamAddr := last.oamAddr.trans still.oamAddr, page := last.page.trans still.page
        bytes := fun j hj => by rw [last.bytes j hj, still.page, bytes j hj] }
  · rw [if_pos odd]
    exact h.transfer odd

end Sys2Proof.Machine

/-! Proofs of the bus family, the controllers, reset and the host's calls: what each leaves of the machine, and that a
cartridge built from an image is laid out as its header says. -/

namespace Sys2Proof.Machine

open Sys2Proof.Stated

/-! ## Controllers -/

theorem State.memRead_pad0 (s : State) : s.memRead 0x4016 =
    ⟨padBit s.bus.padShift0, { s with bus := { s.bus with padShift0 := s.bus.padShift0 <<< 1 } }⟩ := by
  rw [s.memRead_low (by decide)]
  rfl

theorem State.memRead_pad1 (s : State) : s.memRead 0x4017 =
    ⟨padBit s.bus.padShift1, { s with bus := { s.bus with padShift1 := s.bus.padShift1 <<< 1 } }⟩ := by
  rw [s.memRead_low (by decide)]
  rfl

/-- `k` reads of a port shift its latch by `k` and change nothing else (R321). -/
theorem readTimes_pad0 (k : Nat) (s : State) :
    readTimes 0x4016 k s = { s with bus := { s.bus with padShift0 := s.bus.padShift0 <<< k } } := by
  induction k generalizing s with
  | zero => simp [readTimes]
  | succ k ih => rw [readTimes, s.memRead_pad0, ih, Nat.add_comm k, BitVec.shiftLeft_add]

theorem readTimes_pad1 (k : Nat) (s : State) :
    readTimes 0x4017 k s = { s with bus := { s.bus with padShift1 := s.bus.padShift1 <<< k } } := by
  induction k generalizing s with
  | zero => simp [readTimes]
  | succ k ih => rw [readTimes, s.memRead_pad1, ih, Nat.add_comm k, BitVec.shiftLeft_add]

/-- The bit a latch shifted `k` times shows (R321). -/
theorem padBit_shifted (b : Byte) (k : Nat) : padBit (b <<< k) = padStream b k := by
  have top : (b <<< k).getLsbD 7 = (decide (k < 8) && b.getLsbD (7 - k)) := by
    rw [BitVec.getLsbD_shiftLeft]
    by_cases h : k < 8
    · simp [h, show ¬7 < k by omega]
    · simp [h, show 7 < k by omega]
  rw [padBit, top, bitAt, padStream]
  simp

/-- Settles O57: the strobe, then the latch of each port shifted once a read. -/
theorem controllersShiftOut : Obligations.ControllersShiftOut := by
  intro s v k t
  have strobe : t = { s with bus := { s.bus with padShift0 := s.bus.padIn0, padShift1 := s.bus.padIn1 } } := by
    rw [show t = s.memWrite 0x4016 v from rfl, s.memWrite_low v (by decide)]
    rfl
  refine ⟨strobe, ?_⟩
  rw [strobe, readTimes_pad0, readTimes_pad1, State.memRead_pad0, State.memRead_pad1]
  exact ⟨padBit_shifted _ k, padBit_shifted _ k, rfl, rfl⟩

/-! ## Reset -/

/-- `Bus.Reset()` in one piece: the CPU's values with the word at the reset vector of the reset cartridge, the units at
theirs, and everything else kept (R304, R410, R475, R550). -/
theorem State.busReset_eq (s : State) : s.busReset =
    { cpu := { Cpu.reset with pc := wordAt { s with cart := s.cart.map Cart.reset } resetVector }
      bus := { s.bus with n := 0, dmaArmed := false, dmaDummy := true, dmaPage := 0, dmaAddr := 0, dmaData := 0 }
      ppu := s.ppu.resetKeepingMemory
      apu := s.params.apuReset
      cart := s.cart.map Cart.reset
      params := s.params } := by
  unfold State.busReset State.cpuReset
  dsimp only
  rw [State.memRead16_vector _ (by decide) (by decide)]
  rfl

/-- The last-bank number in the width of variant 1's register (log 15). -/
theorem lastBank_setWidth (pb : Byte) : (pb - 1).setWidth 4 = BitVec.ofNat 4 (pb.toNat + 255) := by
  apply BitVec.eq_of_toNat_eq
  simp only [BitVec.toNat_setWidth, BitVec.toNat_sub, BitVec.toNat_ofNat, BitVec.ofNat_eq_ofNat]
  omega

/-- Settles O34: the fields of `Bus.Reset()`, and the reset of each mapper variant. -/
theorem resetGivesFixedValues : Obligations.ResetGivesFixedValues := by
  intro s r zeroSlot
  have reset : r = _ := s.busReset_eq
  have vector : wordAt { s with cart := s.cart.map Cart.reset } resetVector = wordAt r 0xFFFC :=
    wordAt_vector (by decide) (by decide) (by rw [reset])
  rw [vector] at reset
  have cart : r.cart = s.cart.map Cart.reset := congrArg State.cart reset
  refine ⟨cart, congrArg State.cpu reset, congrArg State.bus reset, congrArg State.ppu reset, congrArg State.apu reset,
    by rw [reset], fun c hc => ⟨c.reset, by rw [cart, hc]; rfl, rfl, rfl, ?_⟩⟩
  obtain ⟨pb, cb, id, hw, prg, chr, mapper⟩ := c
  cases mapper with
  | v0 => trivial
  | v1 m => exact ⟨rfl, rfl, rfl, rfl, rfl, rfl, rfl, rfl, lastBank_setWidth pb, rfl⟩
  | v2 m => exact ⟨rfl, rfl⟩
  | v3 m => rfl
  | v4 m => exact ⟨rfl, rfl, rfl, rfl, rfl, rfl, rfl, rfl, rfl, rfl⟩

/-- Settles O35: the fields of the launch state with the default arguments. -/
theorem resetState : Obligations.ResetState :=
  ⟨rfl, rfl, rfl, rfl, rfl, rfl, rfl, rfl, rfl, rfl, rfl, rfl, rfl, rfl, rfl⟩

/-! ## The invariant after reset -/

theorem Params.default_inv : Params.default.Inv where
  tick6 := rfl
  frameCtr := by decide
  lfsr := by decide
  cartRam := Mem.wf_nil 8192

/-- A launch state meets the invariant (R551 to R553). -/
theorem State.launch_inv {q : Params} {ram oam nt pal frame : Mem} (hq : q.Inv) (hram : Mem.wf 2048 ram)
    (hoam : Mem.wf 256 oam) (hnt : Mem.wf 2048 nt) (hpal : Mem.wf 32 pal) (hframe : Mem.wf (256 * 240) frame) :
    (State.launch q ram oam nt pal frame).Inv where
  statusU := (by decide : flagU 0x20 = true)
  statusB := (by decide : flagB 0x20 = false)
  cycles := le_refl 8
  ram := hram
  oam := hoam
  nt := hnt
  pal := hpal
  frame := hframe
  cart := nofun
  scanlineLow := (by decide : (-1 : Int) ≤ 0)
  scanlineHigh := (by decide : (0 : Int) ≤ 260)
  dot := Nat.zero_le _
  sprites := Nat.zero_le _
  nmi := rfl
  tick6 := hq.tick6
  frameCtr := hq.frameCtr
  lfsr := hq.lfsr
  audioTime := AudioTime.wf_zero
  audioTimeNonneg := AudioTime.nonneg_zero
  dmaRest _ := rfl
  params := hq

/-- Settles O43: `State.reset` is the launch state of the default arguments and empty memories. -/
theorem resetMeetsInvariant : Obligations.ResetMeetsInvariant :=
  ⟨State.launch_inv Params.default_inv (Mem.wf_nil _) (Mem.wf_nil _) (Mem.wf_nil _) (Mem.wf_nil _) (Mem.wf_nil _),
    fun _ _ _ _ _ _ hq hram hoam hnt hpal hframe => State.launch_inv hq hram hoam hnt hpal hframe⟩

theorem Cart.Inv.reset {c : Cart} (h : c.Inv) : c.reset.Inv := by
  obtain ⟨pb, cb, id, hw, prg, chr, mapper⟩ := c
  obtain ⟨hprg, hchr, hmapper, hid⟩ := h
  cases mapper with
  | v1 m => exact ⟨hprg, hchr, ⟨Nat.zero_le 4, hmapper.2⟩, hid⟩
  | v4 m => exact ⟨hprg, hchr, ⟨rfl, hmapper.2⟩, hid⟩
  | _ => exact ⟨hprg, hchr, trivial, hid⟩

/-- Reset brings every counter to its start and keeps every memory (R304, R552). -/
theorem State.Inv.busReset {s : State} (h : s.Inv) : s.busReset.Inv := by
  rw [s.busReset_eq]
  exact {
    statusU := (by decide : flagU 0x20 = true), statusB := (by decide : flagB 0x20 = false), cycles := le_refl 8
    ram := h.ram, oam := h.oam, nt := h.nt, pal := h.pal, frame := h.frame
    cart := fun c hc => by
      obtain ⟨c, hc', rfl⟩ := Option.map_eq_some_iff.mp hc
      exact (h.cart c hc').reset
    scanlineLow := (by decide : (-1 : Int) ≤ 0), scanlineHigh := (by decide : (0 : Int) ≤ 260)
    dot := Nat.zero_le _, sprites := Nat.zero_le _, nmi := rfl
    tick6 := h.params.tick6, frameCtr := h.params.frameCtr, lfsr := h.params.lfsr
    audioTime := h.audioTime, audioTimeNonneg := h.audioTimeNonneg
    dmaRest := fun _ => rfl, params := h.params }

/-! ## The mapper of an image -/

/-- A constructed mapper is of its ID's variant, in range, its RAM at `CART_RAM_INIT` (R484, R510, R530). -/
structure Mapper.Constructed (ramInit : Mem) (id : Byte) (m : Mapper) : Prop where
  variant : m.variant = id.toNat
  ram1 : ∀ k, m = .v1 k → k.ram = ramInit ∧ k.count = 0
  ram4 : ∀ k, m = .v4 k → k.ram = ramInit ∧ k.irqActive = false

theorem Mapper.construct_none (ramInit : Mem) {id : Byte} (pb : Byte) (h : 4 < id.toNat) :
    Mapper.construct ramInit id pb = none := by
  obtain ⟨n, hn⟩ : ∃ n, id.toNat = n + 5 := ⟨id.toNat - 5, by omega⟩
  simp only [Mapper.construct, hn]
  rfl

theorem Mapper.construct_some (ramInit : Mem) {id : Byte} (pb : Byte) (h : id.toNat ≤ 4) :
    ∃ m, Mapper.construct ramInit id pb = some m ∧ m.Constructed ramInit id := by
  have cases : id.toNat = 0 ∨ id.toNat = 1 ∨ id.toNat = 2 ∨ id.toNat = 3 ∨ id.toNat = 4 := by omega
  rcases cases with h | h | h | h | h <;> simp only [Mapper.construct, h] <;> refine ⟨_, rfl, ?_⟩
  · exact ⟨h.symm, nofun, nofun⟩
  · exact ⟨h.symm, fun _ e => by cases e; exact ⟨rfl, rfl⟩, nofun⟩
  · exact ⟨h.symm, nofun, nofun⟩
  · exact ⟨h.symm, nofun, nofun⟩
  · exact ⟨h.symm, nofun, fun _ e => by cases e; exact ⟨rfl, rfl⟩⟩

theorem Mapper.Constructed.inv {ramInit : Mem} {id : Byte} {m : Mapper} (h : m.Constructed ramInit id)
    (wf : Mem.wf 8192 ramInit) : m.Inv := by
  obtain ⟨-, ram1, ram4⟩ := h
  cases m with
  | v1 m =>
    obtain ⟨ram, count⟩ := ram1 m rfl
    exact ⟨by omega, ram ▸ wf⟩
  | v4 m =>
    obtain ⟨ram, down⟩ := ram4 m rfl
    exact ⟨down, ram ▸ wf⟩
  | _ => trivial

/-! ## The layout of an image -/

/-- The mapper ID in an image's header (R481). -/
def imageMapperId (image : List Byte) : Byte := (image.getD 7 0 &&& (0xF0 : Byte)) ||| (image.getD 6 0 >>> 4)

/-- What follows the header and the trainer (R481, R482). -/
def imageData (image : List Byte) : List Byte := image.drop (if (image.getD 6 0).getLsbD 2 then 16 + 512 else 16)

/-- The cartridge of an image with mapper `m` (R481 to R483). -/
def imageCart (image : List Byte) (m : Mapper) : Cart :=
  { prgBanks := image.getD 4 0, chrBanks := image.getD 5 0, mapperId := imageMapperId image
    hwMirror := if (image.getD 6 0).getLsbD 0 then .vertical else .horizontal
    prg := Mem.ofBytes ((imageData image).take ((image.getD 4 0).toNat * 16384))
    chr := Mem.ofBytes (((imageData image).drop ((image.getD 4 0).toNat * 16384)).take ((image.getD 5 0).toNat * 8192))
    mapper := m }

theorem Cart.build_eq (ramInit : Mem) (image : List Byte) : Cart.build ramInit image =
    (Mapper.construct ramInit (imageMapperId image) (image.getD 4 0)).map (imageCart image) := rfl

/-- The two nibbles of the mapper ID (R481). -/
theorem toNat_imageMapperId (image : List Byte) :
    (imageMapperId image).toNat = (image.getD 7 0).toNat / 16 * 16 + (image.getD 6 0).toNat / 16 := by
  have nibbles : ∀ x y : Byte, (x &&& (0xF0 : Byte)) ||| (y >>> 4) = x.extractLsb' 4 4 ++ y.extractLsb' 4 4 := by
    intro x y
    apply BitVec.eq_of_getLsbD_eq
    intro i hi
    simp only [BitVec.getLsbD_append, BitVec.getLsbD_or, BitVec.getLsbD_and, BitVec.getLsbD_ushiftRight,
      BitVec.getLsbD_extractLsb']
    match i, hi with
    | 0, _ | 1, _ | 2, _ | 3, _ | 4, _ | 5, _ | 6, _ | 7, _ => simp
  have := (image.getD 7 0).isLt
  have := (image.getD 6 0).isLt
  rw [imageMapperId, nibbles, BitVec.toNat_append, Nat.shiftLeft_eq, Nat.mul_comm,
    ← Nat.two_pow_add_eq_or_of_lt (BitVec.isLt _)]
  simp only [BitVec.extractLsb'_toNat, Nat.shiftRight_eq_div_pow]
  omega

/-- Byte `k` of the data is the image's, bytes past its end being 0x00. -/
theorem getD_imageData (image : List Byte) (k : Nat) :
    (imageData image).getD k 0 = image.getD ((if (image.getD 6 0).getLsbD 2 then 528 else 16) + k) 0 := by
  simp only [imageData, List.getD_eq_getElem?_getD, List.getElem?_drop]

theorem read_imageCart_prg (image : List Byte) (m : Mapper) {k : Nat} (h : k < (image.getD 4 0).toNat * 16384) :
    Mem.read (imageCart image m).prg k = (imageData image).getD k 0 := by
  show Mem.read (Mem.ofBytes (List.take _ _)) k = _
  rw [Mem.read_ofBytes, List.getD_eq_getElem?_getD, List.getElem?_take_of_lt h, ← List.getD_eq_getElem?_getD]

theorem read_imageCart_chr (image : List Byte) (m : Mapper) {k : Nat} (h : k < (image.getD 5 0).toNat * 8192) :
    Mem.read (imageCart image m).chr k = (imageData image).getD ((image.getD 4 0).toNat * 16384 + k) 0 := by
  show Mem.read (Mem.ofBytes (List.take _ _)) k = _
  rw [Mem.read_ofBytes, List.getD_eq_getElem?_getD, List.getElem?_take_of_lt h, List.getElem?_drop,
    ← List.getD_eq_getElem?_getD]

/-- Settles O56: the constructor of the header's mapper ID, and the two storages byte by byte. -/
theorem imageLayout : Obligations.ImageLayout := by
  intro ramInit image byte id data
  rw [Cart.build_eq]
  have idIs : (imageMapperId image).toNat = id := toNat_imageMapperId image
  refine ⟨fun large => by rw [Mapper.construct_none _ _ (by omega)]; rfl, fun small => ?_⟩
  obtain ⟨m, made, constructed⟩ := Mapper.construct_some ramInit (image.getD 4 0) (id := imageMapperId image) (by omega)
  refine ⟨imageCart image m, by rw [made]; rfl, rfl, rfl, idIs, constructed.variant.trans idIs, rfl, fun k hk => ?_,
    fun k hk => ?_, fun none => ⟨by rw [Cart.chrIsRam]; exact beq_iff_eq.mpr none, ?_⟩,
    fun k hk => (constructed.ram1 k hk).1, fun k hk => (constructed.ram4 k hk).1⟩
  · rw [read_imageCart_prg image m hk, getD_imageData]
  · rw [read_imageCart_chr image m hk, getD_imageData, Nat.add_assoc]
  · have empty : image.getD 5 0 = 0 := none
    show Mem.ofBytes (List.take ((image.getD 5 0).toNat * 8192) _) = []
    rw [empty]
    rfl

/-! ## The host's calls -/

/-- A built cartridge meets its part of the invariant (R483, R484). -/
theorem Cart.build_inv {ramInit : Mem} {image : List Byte} {c : Cart} (wf : Mem.wf 8192 ramInit)
    (h : Cart.build ramInit image = some c) : c.Inv := by
  rw [Cart.build_eq] at h
  obtain ⟨m, made, rfl⟩ := Option.map_eq_some_iff.mp h
  have small : (imageMapperId image).toNat ≤ 4 := by
    by_contra large
    rw [Mapper.construct_none _ _ (by omega)] at made
    exact nomatch made
  obtain ⟨m', made', constructed⟩ := Mapper.construct_some ramInit (image.getD 4 0) small
  obtain rfl : m' = m := Option.some.inj (made'.symm.trans made)
  refine ⟨Mem.wf_ofBytes (List.length_take_le _ _), Mem.wf_ofBytes ?_, constructed.inv wf, constructed.variant.symm⟩
  refine (List.length_take_le _ _).trans (Nat.mul_le_mul_right _ (Nat.le_max_left _ _))

theorem State.Inv.insertCartridge {s : State} (h : s.Inv) {c : Cart} (hc : c.Inv) : (s.insertCartridge c).Inv :=
  { h with cart := fun _ e => Option.some.inj e ▸ hc }

/-- Settles O44: each host call by the part of the state it changes. -/
theorem hostCallsKeepInvariant : Obligations.HostCallsKeepInvariant := by
  refine ⟨fun s call h inserted => ?_, fun _ _ _ wf built => Cart.build_inv wf built⟩
  cases call with
  | reset => exact h.busReset
  | insertCartridge c => exact h.insertCartridge (inserted c rfl)
  | loadImage image =>
    cases image with
    | none => exact h
    | some image =>
      rw [State.hostCall]
      split
      · next c built => exact h.insertCartridge (Cart.build_inv h.params.cartRam built)
      · exact { h with cart := nofun }
  | setControllers p0 p1 => exact { h with }
  | setSampleRatio tStep tSample =>
    obtain ⟨tick6, frameCtr, lfsr, cartRam⟩ := h.params
    exact { h with params := ⟨tick6, frameCtr, lfsr, cartRam⟩ }
  | frameTaken => exact { h with }

end Sys2Proof.Machine

/-! Proofs of the cartridge family: the PRG bank of every address, the register writes of every variant, and the scanline
counter. -/

namespace Sys2Proof.Machine

open Sys2Proof.Stated

/-! ## PRG banks -/

/-- The byte at a mapped offset (R485, R494). -/
theorem Cart.cpuRead_of_offset {c : Cart} {a : Addr} {o : Nat} (h : c.cpuMapRead a = .offset o) :
    c.cpuRead a = some (if o < c.prgBanks.toNat * 16384 then Mem.read c.prg o else 0) := by
  unfold Cart.cpuRead
  rw [h]
  rfl

theorem fixedPrgRead_high (pb : Byte) {a : Addr} (h : 0x8000 ≤ a.toNat) :
    fixedPrgRead pb a = .offset (a.toNat % (if 1 < pb.toNat then 0x8000 else 0x4000)) := if_pos h

theorem Mapper1.cpuMapRead_high (m : Mapper1) {a : Addr} (h : 0x8000 ≤ a.toNat) :
    m.cpuMapRead a = .offset (if m.control.getLsbD 3 then
        (if a.toNat < 0xC000 then m.prgLo.toNat else m.prgHi.toNat) * 0x4000 + a.toNat % 0x4000
      else m.prg32.toNat * 0x8000 + a.toNat % 0x8000) := by
  unfold Mapper1.cpuMapRead
  dsimp only
  rw [if_neg (by omega), if_neg (by omega)]
  split
  · split <;> rfl
  · rfl

theorem Mapper2.cpuMapRead_high (m : Mapper2) {a : Addr} (h : 0x8000 ≤ a.toNat) :
    m.cpuMapRead a =
      .offset ((if a.toNat < 0xC000 then m.prgLo.toNat else m.prgHi.toNat) * 0x4000 + a.toNat % 0x4000) := by
  unfold Mapper2.cpuMapRead
  dsimp only
  rw [if_neg (by omega)]
  split <;> rfl

theorem Mapper4.cpuMapRead_high (m : Mapper4) (pb : Byte) {a : Addr} (h : 0x8000 ≤ a.toNat) :
    m.cpuMapRead pb a = .offset (m.prgBank pb (a.toNat / 0x2000 % 4) * 0x2000 + a.toNat % 0x2000) := by
  unfold Mapper4.cpuMapRead
  dsimp only
  rw [if_neg (by omega), if_neg (by omega)]

/-- The four windows of variant 4 (R532). -/
theorem Mapper4.prgBank_eq (m : Mapper4) (pb : Byte) {n : Nat} (h : 0x8000 ≤ n) (h' : n < 0x10000) :
    m.prgBank pb (n / 0x2000 % 4) =
      if n < 0xA000 then (if m.prgMode then pb.toNat * 2 - 1 - 1 else m.r[6].toNat % 64)
      else if n < 0xC000 then m.r[7].toNat % 64
      else if n < 0xE000 then (if m.prgMode then m.r[6].toNat % 64 else pb.toNat * 2 - 1 - 1)
      else pb.toNat * 2 - 1 := by
  by_cases w0 : n < 0xA000
  · rw [if_pos w0, show n / 0x2000 % 4 = 0 by omega]
    rfl
  by_cases w1 : n < 0xC000
  · rw [if_neg w0, if_pos w1, show n / 0x2000 % 4 = 1 by omega]
    rfl
  by_cases w2 : n < 0xE000
  · rw [if_neg w0, if_neg w1, if_pos w2, show n / 0x2000 % 4 = 2 by omega]
    rfl
  · rw [if_neg w0, if_neg w1, if_neg w2, show n / 0x2000 % 4 = 3 by omega]
    rfl

/-- Settles O53: the offset of each variant, and the byte of an offset. -/
theorem bankMath : Obligations.BankMath := by
  intro c a h n
  obtain ⟨pb, cb, id, hw, prg, chr, mapper⟩ := c
  cases mapper with
  | v0 => exact ⟨_, fixedPrgRead_high pb h, Cart.cpuRead_of_offset (fixedPrgRead_high pb h), rfl⟩
  | v1 m => exact ⟨_, m.cpuMapRead_high h, Cart.cpuRead_of_offset (m.cpuMapRead_high h), rfl⟩
  | v2 m => exact ⟨_, m.cpuMapRead_high h, Cart.cpuRead_of_offset (m.cpuMapRead_high h), rfl⟩
  | v3 m => exact ⟨_, fixedPrgRead_high pb h, Cart.cpuRead_of_offset (fixedPrgRead_high pb h), rfl⟩
  | v4 m =>
    refine ⟨_, m.cpuMapRead_high pb h, Cart.cpuRead_of_offset (m.cpuMapRead_high pb h), fun _ => ?_⟩
    rw [m.prgBank_eq pb h a.isLt]

/-! ## Variant 1's serial register -/

/-- A bit entering the shift register from the top (R513). -/
def shiftIn (load : BitVec 5) (b : Bool) : BitVec 5 := (load >>> 1) ||| bitAt 5 b 4

/-- With `count` bits in the shift register (R513). -/
def Mapper1.loaded (m : Mapper1) (load : BitVec 5) (count : Nat) : Mapper1 := { m with load, count }

theorem Mapper1.serialWrite_clear (m : Mapper1) (pb : Byte) (a : Addr) {d : Byte} (h : d.getLsbD 7 = true) :
    m.serialWrite pb a d = { m with load := 0, count := 0, control := m.control ||| 0x0C } := if_pos h

/-- A write before the fifth shifts a bit in. -/
theorem Mapper1.serialWrite_shift (m : Mapper1) (load : BitVec 5) {k : Nat} (pb : Byte) (a : Addr) {d : Byte}
    (h : d.getLsbD 7 = false) (early : k < 4) :
    (m.loaded load k).serialWrite pb a d = m.loaded (shiftIn load (d.getLsbD 0)) (k + 1) := by
  unfold Mapper1.serialWrite
  rw [if_neg (by rw [h]; decide)]
  exact if_neg (show k + 1 ≠ 5 by omega)

/-- The fifth write commits and empties the shift register. -/
theorem Mapper1.serialWrite_commit (m : Mapper1) (load : BitVec 5) (pb : Byte) (a : Addr) {d : Byte}
    (h : d.getLsbD 7 = false) :
    (m.loaded load 4).serialWrite pb a d
      = ((m.loaded load 4).commit pb (a.toNat / 0x2000 % 4) (shiftIn load (d.getLsbD 0))).loaded 0 0 := by
  unfold Mapper1.serialWrite
  rw [if_neg (by rw [h]; decide)]
  rfl

/-- Five bits shifted in, least significant first, are the value, whatever was there before. -/
theorem shiftIn_five (load x : BitVec 5) :
    shiftIn (shiftIn (shiftIn (shiftIn (shiftIn load (x.getLsbD 0)) (x.getLsbD 1)) (x.getLsbD 2)) (x.getLsbD 3))
      (x.getLsbD 4) = x := by
  have bit : ∀ (l : BitVec 5) (b : Bool) (j : Nat),
      (shiftIn l b).getLsbD j = (l.getLsbD (1 + j) || (b && decide (j = 4))) := fun l b j => by
    simp [shiftIn, getLsbD_bitAt]
  apply BitVec.eq_of_getLsbD_eq
  intro i hi
  simp only [bit]
  match i, hi with
  | 0, _ | 1, _ | 2, _ | 3, _ | 4, _ => simp

/-- Five writes from an empty shift register commit the value they carry to the register the fifth selects (R513). -/
theorem serialWrites_commit (m : Mapper1) (pb : Byte) (a : Fin 5 → Addr) (d : Fin 5 → Byte) (x : BitVec 5)
    (empty : m.count = 0) (carries : ∀ k, (d k).getLsbD 7 = false ∧ (d k).getLsbD 0 = x.getLsbD k) :
    ∃ load, serialWrites m pb a d = ((m.loaded load 4).commit pb ((a 4).toNat / 0x2000 % 4) x).loaded 0 0 := by
  have clear := fun k => (carries k).1
  have bit := fun k => (carries k).2
  have unrolled : serialWrites (m.loaded m.load 0) pb a d =
    (((((m.loaded m.load 0).serialWrite pb (a 0) (d 0)).serialWrite pb (a 1) (d 1)).serialWrite pb
      (a 2) (d 2)).serialWrite pb (a 3) (d 3)).serialWrite pb (a 4) (d 4) := rfl
  have start : m.loaded m.load 0 = m := by rw [← empty]; rfl
  rw [start] at unrolled
  rw [unrolled, ← start, m.serialWrite_shift _ pb _ (clear 0) (by decide),
    m.serialWrite_shift _ pb _ (clear 1) (by decide), m.serialWrite_shift _ pb _ (clear 2) (by decide),
    m.serialWrite_shift _ pb _ (clear 3) (by decide), m.serialWrite_commit _ pb _ (clear 4), bit 0, bit 1, bit 2, bit 3,
    bit 4]
  have value := shiftIn_five m.load x
  exact ⟨_, congrArg (fun y => (Mapper1.commit _ pb _ y).loaded 0 0) value⟩

/-- The last row of the commit table, by the PRG mode (R514). -/
theorem Mapper1.commit_prg (m : Mapper1) (pb : Byte) (x : BitVec 5) :
    m.commit pb 3 x =
      if m.control.toNat / 4 % 4 < 2 then { m with prg32 := BitVec.ofNat 3 (x.toNat / 2) }
      else if m.control.toNat / 4 % 4 = 2 then { m with prgLo := 0, prgHi := BitVec.ofNat 4 x.toNat }
      else { m with prgLo := BitVec.ofNat 4 x.toNat, prgHi := BitVec.ofNat 4 (pb.toNat + 255) } := by
  have mode : (m.control.extractLsb' 2 2).toNat = m.control.toNat / 4 % 4 := by simp [Nat.shiftRight_eq_div_pow]
  have high : x.extractLsb' 1 3 = BitVec.ofNat 3 (x.toNat / 2) := by
    apply BitVec.eq_of_toNat_eq
    simp [Nat.shiftRight_eq_div_pow]
  have low : x.extractLsb' 0 4 = BitVec.ofNat 4 x.toNat := by
    apply BitVec.eq_of_toNat_eq
    simp
  simp only [Mapper1.commit, mode, high, low, lastBank_setWidth]
  have modes : m.control.toNat / 4 % 4 = 0 ∨ m.control.toNat / 4 % 4 = 1 ∨ m.control.toNat / 4 % 4 = 2
      ∨ m.control.toNat / 4 % 4 = 3 := by omega
  rcases modes with h | h | h | h <;> rw [h] <;> rfl

/-! ## Register writes of every variant -/

/-- Bit 0 of an address is its parity. -/
theorem getLsbD_zero_addr (a : Addr) : a.getLsbD 0 = !decide (a.toNat % 2 = 0) := by
  rw [BitVec.getLsbD, Nat.testBit_zero, ← decide_not, decide_eq_decide]
  omega

theorem set_eq_ofFn (r : Vector Byte 8) (t : BitVec 3) (d : Byte) :
    r.set t.toNat d t.isLt = Vector.ofFn fun k : Fin 8 => if k.val = t.toNat then d else r[k] := by
  ext i hi
  simp [Vector.getElem_set, eq_comm]

/-- Variant 4's register write by windows and parity as numbers (R533). -/
theorem Mapper4.registerWrite_eq (m : Mapper4) {a : Addr} (d : Byte) (h : 0x8000 ≤ a.toNat) :
    m.registerWrite a d =
      if a.toNat < 0xA000 then
        if a.toNat % 2 = 0 then
          { m with target := BitVec.ofNat 3 (d.toNat % 8), prgMode := d.getLsbD 6, chrInv := d.getLsbD 7 }
        else { m with r := Vector.ofFn fun k => if k.val = m.target.toNat then d else m.r[k] }
      else if a.toNat < 0xC000 then
        if a.toNat % 2 = 0 then { m with mirror := if d.getLsbD 0 then .horizontal else .vertical } else m
      else if a.toNat < 0xE000 then
        if a.toNat % 2 = 0 then { m with irqReload := d } else { m with irqCounter := 0 }
      else
        if a.toNat % 2 = 0 then { m with irqEnable := false, irqActive := false } else { m with irqEnable := true } := by
  have low : d.extractLsb' 0 3 = BitVec.ofNat 3 (d.toNat % 8) := by
    apply BitVec.eq_of_toNat_eq
    simp
  have := a.isLt
  have windows : (a.toNat / 0x2000 % 4 = 0 ∧ a.toNat < 0xA000)
      ∨ (a.toNat / 0x2000 % 4 = 1 ∧ ¬a.toNat < 0xA000 ∧ a.toNat < 0xC000)
      ∨ (a.toNat / 0x2000 % 4 = 2 ∧ ¬a.toNat < 0xA000 ∧ ¬a.toNat < 0xC000 ∧ a.toNat < 0xE000)
      ∨ (a.toNat / 0x2000 % 4 = 3 ∧ ¬a.toNat < 0xA000 ∧ ¬a.toNat < 0xC000 ∧ ¬a.toNat < 0xE000) := by omega
  unfold Mapper4.registerWrite
  rw [getLsbD_zero_addr, low, set_eq_ofFn]
  by_cases parity : a.toNat % 2 = 0 <;> rcases windows with w | w | w | w <;> simp only [w, parity] <;> rfl

/-- A write from 0x8000 on is the write table's, claimed by no variant (R500, R513, R522, R527, R533). -/
theorem Cart.cpuWrite_register (c : Cart) {a : Addr} (d : Byte) (h : 0x8000 ≤ a.toNat) :
    (c.cpuWrite a d).cart = { c with mapper := mapperAfterWrite c a d } := by
  have low : ¬a.toNat < 0x6000 := by omega
  have ram : ¬a.toNat < 0x8000 := by omega
  obtain ⟨pb, cb, id, hw, prg, chr, mapper⟩ := c
  unfold Cart.cpuWrite mapperAfterWrite
  cases mapper with
  | v0 => rfl
  | v1 m => simp only [low, ram, if_false]
  | v2 m =>
    have bank : d.extractLsb' 0 4 = BitVec.ofNat 4 (d.toNat % 16) := by
      apply BitVec.eq_of_toNat_eq
      simp
    simp only [ram, if_false, bank]
  | v3 m =>
    have bank : d.extractLsb' 0 2 = BitVec.ofNat 2 (d.toNat % 4) := by
      apply BitVec.eq_of_toNat_eq
      simp
    simp only [ram, if_false, bank]
  | v4 m => simp only [low, ram, if_false, m.registerWrite_eq d h]

/-- Settles O54: five writes from an empty register by the commit table, and the write table of every variant. -/
theorem serialRegisterLoad : Obligations.SerialRegisterLoad := by
  refine ⟨fun m pb a d x empty carries => ?_, fun m pb a d => m.serialWrite_clear pb a, fun s c a d hc h => ?_⟩
  · intro e mode
    obtain ⟨load, committed⟩ := serialWrites_commit m pb a d x empty carries
    rw [committed]
    have targets : (a 4).toNat / 0x2000 % 4 = 0 ∨ (a 4).toNat / 0x2000 % 4 = 1 ∨ (a 4).toNat / 0x2000 % 4 = 2
        ∨ (a 4).toNat / 0x2000 % 4 = 3 := by omega
    rcases targets with h | h | h | h <;> rw [h]
    · rfl
    · exact apply_ite (Mapper1.loaded · 0 0) _ _ _
    · exact apply_ite (Mapper1.loaded · 0 0) _ _ _
    · rw [Mapper1.commit_prg, apply_ite (Mapper1.loaded · 0 0), apply_ite (Mapper1.loaded · 0 0)]
      rfl
  · rw [s.memWrite_high d (by omega), hc, Option.map_some, c.cpuWrite_register d h]

/-! ## The scanline counter -/

theorem Ppu.rendering_iff (u : Ppu) : u.rendering = true ↔ renders u := by
  rw [Ppu.rendering, Bool.or_eq_true]
  rfl

/-- When the mapper is called (R402). -/
theorem Ppu.scanlineDot_iff {u : Ppu} (low : -1 ≤ u.scanline) :
    u.scanlineDot = true ↔ renders u ∧ OnLine u ∧ u.dot = 260 := by
  simp only [Ppu.scanlineDot, Bool.and_eq_true, u.rendering_iff, beq_iff_eq, decide_eq_true_eq, OnLine]
  tauto

/-- What a call does to variant 4, as numbers (R535). -/
theorem Mapper4.scanline_eq (m : Mapper4) :
    let counter := if m.irqCounter.toNat = 0 then m.irqReload else BitVec.ofNat 8 (m.irqCounter.toNat - 1)
    m.scanline = { m with
      irqCounter := counter, irqActive := m.irqActive || (m.irqEnable && decide (counter.toNat = 0)) } := by
  intro counter
  have next : (if m.irqCounter = 0 then m.irqReload else m.irqCounter - 1) = counter := by
    have zero : m.irqCounter = 0 ↔ m.irqCounter.toNat = 0 := by bv_omega
    have down : m.irqCounter.toNat ≠ 0 → m.irqCounter - 1 = BitVec.ofNat 8 (m.irqCounter.toNat - 1) := by
      intro h
      bv_omega
    simp only [counter, zero]
    split
    · rfl
    · next h => exact down h
  have flag : (counter == 0 && m.irqEnable) = (m.irqEnable && decide (counter.toNat = 0)) := by
    rw [Bool.and_comm, beq_eq_decide]
    congr 1
    rw [decide_eq_decide]
    bv_omega
  unfold Mapper4.scanline
  dsimp only
  rw [next, flag]

/-- The counter reloads at 0 and then counts down, so that after `k + 1` calls it stands `k` below the reload value
(R535). -/
theorem Mapper4.iterate_scanline {m : Mapper4} (zero : m.irqCounter = 0) (enabled : m.irqEnable = true)
    (down : m.irqActive = false) (k : Nat) (hk : k ≤ m.irqReload.toNat) :
    Mapper4.scanline^[k + 1] m = { m with
      irqCounter := BitVec.ofNat 8 (m.irqReload.toNat - k), irqActive := decide (k = m.irqReload.toNat) } := by
  have range := m.irqReload.isLt
  induction k with
  | zero =>
    rw [Function.iterate_one, m.scanline_eq, zero, enabled, down]
    simp [eq_comm]
  | succ k ih =>
    rw [Function.iterate_succ_apply', ih (by omega), Mapper4.scanline_eq]
    have counter : (BitVec.ofNat 8 (m.irqReload.toNat - k)).toNat = m.irqReload.toNat - k := by
      rw [BitVec.toNat_ofNat]
      omega
    have below : (BitVec.ofNat 8 (m.irqReload.toNat - (k + 1))).toNat = m.irqReload.toNat - (k + 1) := by
      rw [BitVec.toNat_ofNat]
      omega
    have early : decide (k = m.irqReload.toNat) = false := decide_eq_false (by omega)
    simp only [counter, if_neg (show m.irqReload.toNat - k ≠ 0 by omega), below, enabled, early, Bool.false_or,
      Bool.true_and, Nat.sub_sub]
    congr 1
    rw [decide_eq_decide]
    omega

/-- Settles O55: one call of each variant, and the iterate of variant 4's. -/
theorem scanlineIrqPeriod : Obligations.ScanlineIrqPeriod := by
  refine ⟨fun s low => ?_, fun m zero enabled down k hk => ?_⟩
  · intro called
    have dot : s.ppu.scanlineDot = true ↔ called := Ppu.scanlineDot_iff low
    refine ⟨fun h c m hc hm => ?_, fun h other => ?_, fun h => ?_⟩
    · rw [s.beforeSlot_cart, if_pos (dot.mpr h), hc, Option.map_some, Cart.scanline, hm]
      simp only [m.scanline_eq]
    · rw [s.beforeSlot_cart, if_pos (dot.mpr h)]
      cases hc : s.cart with
      | none => rfl
      | some c =>
        obtain ⟨pb, cb, id, hw, prg, chr, mapper⟩ := c
        cases mapper with
        | v4 m => exact absurd rfl (other _ hc)
        | _ => rfl
    · rw [s.beforeSlot_cart, if_neg (mt dot.mp h)]
  · cases k with
    | zero => exact ⟨by simp [down], nofun, rfl⟩
    | succ k =>
      have reload : k ≤ m.irqReload.toNat := by omega
      intro m'
      have after : m' = _ := Mapper4.iterate_scanline zero enabled down k reload
      rw [after]
      exact ⟨by simp, fun last => by simp [show k = m.irqReload.toNat by omega], rfl⟩

end Sys2Proof.Machine

/-! Proofs of the picture unit's family, its registers and its address space: what each register access makes of the
registers, and what each write to the address space changes of every read. -/

namespace Sys2Proof.Machine

open Sys2Proof.Stated

/-! ## Bit fields -/

/-- The bits of a replaced field (R7). -/
theorem getLsbD_setField {w n : Nat} (x : BitVec w) {lo : Nat} (v : BitVec n) (fits : lo + n ≤ w) (j : Nat) :
    (setField x lo v).getLsbD j = if lo ≤ j ∧ j < lo + n then v.getLsbD (j - lo) else x.getLsbD j := by
  simp only [setField, BitVec.getLsbD_or, BitVec.getLsbD_and, BitVec.getLsbD_not, BitVec.getLsbD_shiftLeft,
    BitVec.getLsbD_setWidth, BitVec.getLsbD_allOnes]
  by_cases hw : j < w
  · have inside : j - lo < w := by omega
    by_cases low : j < lo
    · simp [hw, low, Nat.not_le.mpr low]
    · by_cases high : j < lo + n
      · simp [hw, low, inside, Nat.not_lt.mp low, high, show j - lo < n by omega]
      · have above : n ≤ j - lo := by omega
        simp [hw, low, inside, high, BitVec.getLsbD_of_ge v _ above, Nat.not_lt.mpr above]
  · have field : ¬(lo ≤ j ∧ j < lo + n) := by omega
    rw [if_neg field, BitVec.getLsbD_of_ge x j (Nat.not_lt.mp hw)]
    simp [hw]

/-! ## STATUS -/

theorem Ppu.statusByte_bits (u : Ppu) (k : Nat) : u.statusByte.getLsbD k =
    ((u.vblank && decide (k = 7)) || (u.zeroHit && decide (k = 6)) || (u.overflow && decide (k = 5))
      || (u.dataBuf.getLsbD k && decide (k < 5))) := by
  have low : (0x1F : Byte).getLsbD k = decide (k < 5) := by
    by_cases h : k < 8
    · match k, h with
      | 0, _ | 1, _ | 2, _ | 3, _ | 4, _ | 5, _ | 6, _ | 7, _ => decide
    · rw [BitVec.getLsbD_of_ge _ _ (by omega), decide_eq_false (by omega)]
  simp only [Ppu.statusByte, BitVec.getLsbD_or, BitVec.getLsbD_and, getLsbD_bitAt, low]
  simp

/-- Settles O45: the register is number 2 at every mirror, and its byte is told bit by bit. -/
theorem statusRegister : Obligations.StatusRegister := by
  intro s a d h h' register
  have read : s.memRead a = s.readStatus := by rw [s.memRead_ppuWindow h h', register]; rfl
  refine ⟨s.ppu.statusByte, read, by simp only [Ppu.statusByte_bits]; simp, by simp only [Ppu.statusByte_bits]; simp,
    by simp only [Ppu.statusByte_bits]; simp, ?_, congrArg Read.val read, by
      rw [s.memWrite_ppuWindow d h h', register]; rfl⟩
  have low : s.ppu.statusByte.setWidth 5 = s.ppu.dataBuf.setWidth 5 := by
    apply BitVec.eq_of_getLsbD_eq
    intro i hi
    simp only [BitVec.getLsbD_setWidth, Ppu.statusByte_bits]
    simp [hi, show i ≠ 7 by omega, show i ≠ 6 by omega, show i ≠ 5 by omega]
  simpa using congrArg BitVec.toNat low

/-! ## The other registers -/

/-- A register write at the register's first address (R342). -/
theorem State.memWrite_register (s : State) (d : Byte) (r : Fin 8) :
    s.memWrite (BitVec.ofNat 16 (0x2000 + r)) d = s.ppuRegWrite r d := by
  have := r.isLt
  rw [s.memWrite_ppuWindow d (by rw [BitVec.toNat_ofNat]; omega) (by rw [BitVec.toNat_ofNat]; omega), BitVec.toNat_ofNat]
  congr 1
  omega

theorem Ppu.writeScroll_first {u : Ppu} (d : Byte) (h : u.w = false) :
    u.writeScroll d = { u with fineX := d.extractLsb' 0 3, t := setField u.t 0 (d.extractLsb' 3 5), w := true } :=
  if_neg (by rw [h]; decide)

theorem Ppu.writeScroll_second {u : Ppu} (d : Byte) (h : u.w = true) :
    u.writeScroll d = { u with
      t := setField (setField u.t 12 (d.extractLsb' 0 3)) 5 (d.extractLsb' 3 5), w := false } := if_pos h

theorem Ppu.writeAddr_first {u : Ppu} (d : Byte) (h : u.w = false) :
    u.writeAddr d = { u with t := setField u.t 8 ((d.extractLsb' 0 6).setWidth 7), w := true } :=
  if_neg (by rw [h]; decide)

theorem Ppu.writeAddr_second {u : Ppu} (d : Byte) (h : u.w = true) :
    u.writeAddr d = { u with t := setField u.t 0 d, v := setField u.t 0 d, w := false } := if_pos h

/-- `t` after a CTRL write (R343). -/
theorem ctrl_bits (t : BitVec 15) (d : Byte) (k : Nat) : (setField t 10 (d.extractLsb' 0 2)).getLsbD k =
    if k = 10 then d.getLsbD 0 else if k = 11 then d.getLsbD 1 else t.getLsbD k := by
  rw [getLsbD_setField _ _ (by decide)]
  by_cases h0 : k = 10
  · subst h0; simp
  by_cases h1 : k = 11
  · subst h1; simp
  · rw [if_neg (by omega), if_neg h0, if_neg h1]

/-- `t` after the first SCROLL write (R349). -/
theorem scroll_first_bits (t : BitVec 15) (d : Byte) (k : Nat) : (setField t 0 (d.extractLsb' 3 5)).getLsbD k =
    if k < 5 then d.getLsbD (k + 3) else t.getLsbD k := by
  rw [getLsbD_setField _ _ (by decide)]
  by_cases h : k < 5
  · simp [h, Nat.add_comm]
  · simp [h]

/-- `t` after the second SCROLL write (R349). -/
theorem scroll_second_bits (t : BitVec 15) (d : Byte) (k : Nat) :
    (setField (setField t 12 (d.extractLsb' 0 3)) 5 (d.extractLsb' 3 5)).getLsbD k =
      if 12 ≤ k ∧ k < 15 then d.getLsbD (k - 12)
      else if 5 ≤ k ∧ k < 10 then d.getLsbD (k - 2) else t.getLsbD k := by
  rw [getLsbD_setField _ _ (by decide), getLsbD_setField _ _ (by decide)]
  by_cases high : 12 ≤ k ∧ k < 15
  · rw [if_neg (by omega), if_pos high, if_pos high, BitVec.getLsbD_extractLsb']
    simp [show k - 12 < 3 by omega]
  by_cases low : 5 ≤ k ∧ k < 10
  · rw [if_pos low, if_neg high, if_pos low, BitVec.getLsbD_extractLsb', show 3 + (k - 5) = k - 2 by omega]
    simp [show k - 5 < 5 by omega]
  · rw [if_neg low, if_neg high, if_neg high, if_neg low]

/-- `t` after the first ADDR write (R350). -/
theorem addr_first_bits (t : BitVec 15) (d : Byte) (k : Nat) :
    (setField t 8 ((d.extractLsb' 0 6).setWidth 7)).getLsbD k =
      if 8 ≤ k then decide (k < 14) && d.getLsbD (k - 8) else t.getLsbD k := by
  rw [getLsbD_setField _ _ (by decide)]
  by_cases high : 8 ≤ k
  · by_cases top : k < 15
    · rw [if_pos ⟨high, top⟩, if_pos high, BitVec.getLsbD_setWidth, BitVec.getLsbD_extractLsb']
      by_cases h : k < 14
      · simp [h, show k - 8 < 7 by omega, show k - 8 < 6 by omega]
      · simp [h, show ¬k - 8 < 6 by omega]
    · rw [if_neg (by omega), if_pos high, BitVec.getLsbD_of_ge _ _ (by omega)]
      simp [show ¬k < 14 by omega]
  · rw [if_neg (by omega), if_neg high]

/-- `t` after the second ADDR write (R350). -/
theorem addr_second_bits (t : BitVec 15) (d : Byte) (k : Nat) :
    (setField t 0 d).getLsbD k = if k < 8 then d.getLsbD k else t.getLsbD k := by
  rw [getLsbD_setField _ _ (by decide)]
  simp

/-- The write-only registers read 0x00 (R342). -/
theorem State.ppuRegRead_writeOnly (s : State) {r : Nat} (h : r ∈ [0, 1, 3, 5, 6]) : s.ppuRegRead r = ⟨0, s⟩ := by
  simp only [List.mem_cons, List.not_mem_nil, or_false] at h
  rcases h with rfl | rfl | rfl | rfl | rfl <;> rfl

/-- Settles O46: the registers by number, and the fields of `t` bit by bit. -/
theorem scrollAndAddressWrites : Obligations.ScrollAndAddressWrites := by
  intro s d t
  have scroll : s.memWrite 0x2005 d = { s with ppu := s.ppu.writeScroll d } := s.memWrite_register d 5
  have addr : s.memWrite 0x2006 d = { s with ppu := s.ppu.writeAddr d } := s.memWrite_register d 6
  have oamNext : s.ppu.oamAddr + 1 = BitVec.ofNat 8 (s.ppu.oamAddr.toNat + 1) := by bv_omega
  refine ⟨⟨_, s.memWrite_register d 0, ctrl_bits t d⟩,
    fun first => ⟨_, _, by rw [scroll, Ppu.writeScroll_first d first], by simp, scroll_first_bits t d⟩,
    fun second => ⟨_, by rw [scroll, Ppu.writeScroll_second d second], scroll_second_bits t d⟩,
    fun first => ⟨_, by rw [addr, Ppu.writeAddr_first d first], addr_first_bits t d⟩,
    fun second => ⟨_, by rw [addr, Ppu.writeAddr_second d second], addr_second_bits t d⟩,
    s.memWrite_register d 1, s.memWrite_register d 3, ?_, s.memRead_ppuWindow (by decide) (by decide),
    fun a h h' register => by rw [s.memRead_ppuWindow h h', s.ppuRegRead_writeOnly register]⟩
  rw [← oamNext]
  exact s.memWrite_register d 4

/-! ## DATA -/

theorem Ppu.dataAddr_eq (u : Ppu) : u.dataAddr = BitVec.ofNat 14 u.v.toNat := (BitVec.ofNat_toNat 14 u.v).symm

/-- The increment of `v` (R351). -/
theorem Ppu.nextV_eq (u : Ppu) : u.nextV = BitVec.ofNat 15 (u.v.toNat + if u.ctrl.getLsbD 2 then 32 else 1) := by
  unfold Ppu.nextV
  split <;> bv_omega

/-- A write to the PPU address space moves no register of the picture unit (R353). -/
theorem State.ppuWrite_registers (s : State) (a : BitVec 14) (d : Byte) :
    (s.ppuWrite a d).ppu = { s.ppu with nt := (s.ppuWrite a d).ppu.nt, pal := (s.ppuWrite a d).ppu.pal } := by
  have memory : ∀ m, s.ppu.memWrite m a.toNat d
      = { s.ppu with nt := (s.ppu.memWrite m a.toNat d).nt, pal := (s.ppu.memWrite m a.toNat d).pal } := by
    intro m
    unfold Ppu.memWrite
    split
    · rfl
    · split <;> rfl
  unfold State.ppuWrite
  split
  · exact memory _
  · dsimp only
    split
    · rfl
    · exact memory _

/-- Settles O47: register 7 with the address and the increment as numbers. -/
theorem dataRegister : Obligations.DataRegister := by
  intro s d a next
  have addr : s.ppu.dataAddr = a := s.ppu.dataAddr_eq
  have moved : s.ppu.nextV = next := s.ppu.nextV_eq
  have read : s.memRead 0x2007 = ⟨if 0x3F00 ≤ a.toNat then s.ppuRead a else s.ppu.dataBuf,
      { s with ppu := { s.ppu with dataBuf := s.ppuRead a, v := next } }⟩ := by
    rw [s.memRead_ppuWindow (by decide) (by decide), ← addr, ← moved]
    rfl
  have write : s.memWrite 0x2007 d = s.writeData d := s.memWrite_register d 7
  have after : (s.ppuWrite a d).ppu.nextV = next := by rw [s.ppuWrite_registers]; exact moved
  refine ⟨read, ?_, congrArg Read.val read⟩
  rw [write, State.writeData, addr, after]

/-! ## The address space: where each read and write goes -/

/-- The mirroring mode in force, by variant (R355, R487, R516, R539). -/
theorem State.mirror_eq (s : State) : s.mirror = mirrorInForce s.cart := by
  unfold State.mirror mirrorInForce
  cases s.cart with
  | none => rfl
  | some c =>
    obtain ⟨pb, cb, id, hw, prg, chr, mapper⟩ := c
    cases mapper with
    | v1 m =>
      have bits : (m.control.extractLsb' 0 2).toNat = m.control.toNat % 4 := by simp
      have modes : m.control.toNat % 4 = 0 ∨ m.control.toNat % 4 = 1 ∨ m.control.toNat % 4 = 2
          ∨ m.control.toNat % 4 = 3 := by omega
      simp only [Cart.mirror, Mapper.getMirror, bits]
      rcases modes with h | h | h | h <;> rw [h] <;> rfl
    | v4 m =>
      obtain ⟨target, prgMode, chrInv, r, mirror, counter, reload, enable, active, ram⟩ := m
      cases mirror <;> rfl
    | _ => cases hw <;> rfl

/-- The quadrant table (R355). -/
theorem ntTable_eq (m : Mirror) {q : Nat} (h : q < 4) : ntTable m q = (quadrantTables m).getD q 0 := by
  have quadrants : q = 0 ∨ q = 1 ∨ q = 2 ∨ q = 3 := by omega
  rcases quadrants with rfl | rfl | rfl | rfl <;> cases m <;> rfl

theorem nametableCell_eq (s : State) (a : Nat) : nametableCell s a = (ntTable s.mirror (a / 0x400 % 4), a % 0x400) := by
  rw [nametableCell, ← s.mirror_eq, ntTable_eq s.mirror (Nat.mod_lt _ (by decide))]

/-- Two nametable addresses are one byte when table and offset are the same (R355). -/
theorem ntIndex_eq_iff (s : State) (a b : Nat) :
    ntIndex s.mirror b = ntIndex s.mirror a ↔ nametableCell s b = nametableCell s a := by
  rw [nametableCell_eq, nametableCell_eq, Prod.mk.injEq, ntIndex, ntIndex]
  omega

theorem palIndex_eq (a : Nat) : palIndex a = paletteEntry a := by
  unfold palIndex paletteEntry
  simp

/-- A byte with bit 0 replaced, as a number. -/
theorem toNat_withBit0 (x : Byte) (b : BitVec 1) : (x.extractLsb' 1 7 ++ b).toNat = x.toNat / 2 * 2 + b.toNat := by
  have := x.isLt
  rw [BitVec.toNat_append, Nat.shiftLeft_eq, Nat.mul_comm, ← Nat.two_pow_add_eq_or_of_lt b.isLt, BitVec.extractLsb'_toNat,
    Nat.shiftRight_eq_div_pow]
  omega

theorem toNat_and_FE (x : Byte) : (x &&& 0xFE).toNat = x.toNat / 2 * 2 := by
  have clear : x &&& 0xFE = x.extractLsb' 1 7 ++ (0 : BitVec 1) := by
    apply BitVec.eq_of_getLsbD_eq
    intro i hi
    simp only [BitVec.getLsbD_append, BitVec.getLsbD_and, BitVec.getLsbD_extractLsb']
    match i, hi with
    | 0, _ | 1, _ | 2, _ | 3, _ | 4, _ | 5, _ | 6, _ | 7, _ => simp
  rw [clear]
  exact toNat_withBit0 x 0

theorem toNat_or_one (x : Byte) : (x ||| 1).toNat = x.toNat / 2 * 2 + 1 := by
  have set : x ||| 1 = x.extractLsb' 1 7 ++ (1 : BitVec 1) := by
    apply BitVec.eq_of_getLsbD_eq
    intro i hi
    simp only [BitVec.getLsbD_append, BitVec.getLsbD_or, BitVec.getLsbD_extractLsb']
    match i, hi with
    | 0, _ | 1, _ | 2, _ | 3, _ | 4, _ | 5, _ | 6, _ | 7, _ => simp
  rw [set]
  exact toNat_withBit0 x 1

/-- Variant 4's CHR banks as a table (R538). -/
theorem Mapper4.chrBank_eq (m : Mapper4) {q : Nat} (h : q < 8) :
    let even := fun k : Fin 8 => m.r[k].toNat / 2 * 2
    let pairs := [even 0, even 0 + 1, even 1, even 1 + 1]
    let singles := [m.r[2].toNat, m.r[3].toNat, m.r[4].toNat, m.r[5].toNat]
    m.chrBank q = (if m.chrInv then singles ++ pairs else pairs ++ singles).getD q 0 := by
  intro even pairs singles
  have slots : q = 0 ∨ q = 1 ∨ q = 2 ∨ q = 3 ∨ q = 4 ∨ q = 5 ∨ q = 6 ∨ q = 7 := by omega
  unfold Mapper4.chrBank
  rw [toNat_and_FE, toNat_and_FE, toNat_or_one, toNat_or_one]
  cases m.chrInv <;> rcases slots with rfl | rfl | rfl | rfl | rfl | rfl | rfl | rfl <;> rfl

/-- The CHR offset of each variant (R502, R515, R523, R528, R538). -/
theorem Cart.chrOffset_eq (c : Cart) {a : Nat} (h : a < 0x2000) : c.chrOffset a = chrOffsetOf c a := by
  obtain ⟨pb, cb, id, hw, prg, chr, mapper⟩ := c
  unfold Cart.chrOffset chrOffsetOf
  cases mapper with
  | v1 m =>
    have isRam : (cb == 0) = true ↔ cb.toNat = 0 := by rw [beq_iff_eq]; bv_omega
    simp only [Cart.chrIsRam, Mapper1.chrOffset, isRam, Nat.mod_eq_of_lt h]
    split
    · rfl
    split
    · split <;> rfl
    · rfl
  | v4 m => simp only [m.chrBank_eq (show a / 0x400 < 8 by omega)]
  | _ => rfl

/-- A pattern read (R486). -/
theorem State.ppuRead_pattern (s : State) {a : BitVec 14} (h : a.toNat < 0x2000) {c : Cart} (hc : s.cart = some c) :
    s.ppuRead a = if chrOffsetOf c a.toNat < c.chrSize then Mem.read c.chr (chrOffsetOf c a.toNat) else 0 := by
  unfold State.ppuRead
  rw [hc, Option.bind_some, Cart.ppuRead, if_pos h]
  dsimp only
  rw [c.chrOffset_eq h]

theorem State.ppuRead_pattern_none (s : State) {a : BitVec 14} (h : a.toNat < 0x2000) (hc : s.cart = none) :
    s.ppuRead a = 0 := by
  unfold State.ppuRead
  rw [hc]
  exact if_pos h

/-- A nametable read (R355). -/
theorem State.ppuRead_nametable (s : State) {a : BitVec 14} (h : 0x2000 ≤ a.toNat) (h' : a.toNat < 0x3F00) :
    s.ppuRead a = Mem.read s.ppu.nt (ntIndex s.mirror a.toNat) := by
  have unclaimed : s.cart.bind (·.ppuRead a) = none := by
    cases s.cart with
    | none => rfl
    | some c => exact if_neg (by omega)
  unfold State.ppuRead
  rw [unclaimed]
  dsimp only
  rw [if_neg (by omega), if_pos h']

/-- Above pattern space no cartridge claims a write (R353). -/
theorem State.ppuWrite_own (s : State) {a : BitVec 14} (d : Byte) (h : 0x2000 ≤ a.toNat) :
    s.ppuWrite a d = { s with ppu := s.ppu.memWrite s.mirror a.toNat d } := by
  unfold State.ppuWrite
  split
  · rfl
  · next c hc =>
    have unclaimed : (c.ppuWrite a d).claimed = false := by
      rw [Cart.ppuWrite, if_neg (by omega)]
    exact if_neg (by rw [unclaimed]; decide)

theorem State.ppuWrite_palette (s : State) {a : BitVec 14} (d : Byte) (h : 0x3F00 ≤ a.toNat) :
    s.ppuWrite a d = { s with ppu := { s.ppu with pal := Mem.write s.ppu.pal (paletteEntry a.toNat) d } } := by
  rw [s.ppuWrite_own d (by omega), Ppu.memWrite, if_neg (by omega), if_neg (by omega), palIndex_eq]

theorem State.ppuWrite_nametable (s : State) {a : BitVec 14} (d : Byte) (h : 0x2000 ≤ a.toNat) (h' : a.toNat < 0x3F00) :
    s.ppuWrite a d = { s with ppu := { s.ppu with nt := Mem.write s.ppu.nt (ntIndex s.mirror a.toNat) d } } := by
  rw [s.ppuWrite_own d h, Ppu.memWrite, if_neg (by omega), if_pos h']

theorem Cart.chrIsRam_iff (c : Cart) : c.chrIsRam = true ↔ c.chrBanks = 0 := beq_iff_eq

/-- A pattern write without CHR RAM does nothing (R353, R486). -/
theorem State.ppuWrite_rom (s : State) {a : BitVec 14} (d : Byte) (h : a.toNat < 0x2000)
    (rom : ∀ c, s.cart = some c → c.chrBanks ≠ 0) : s.ppuWrite a d = s := by
  have own : s.ppu.memWrite s.mirror a.toNat d = s.ppu := if_pos h
  unfold State.ppuWrite
  split
  · rw [own]
  · next c hc =>
    have unclaimed : (c.ppuWrite a d).claimed = false := by
      rw [Cart.ppuWrite, if_neg fun ⟨_, ram⟩ => rom c hc (c.chrIsRam_iff.mp ram)]
    simp only [unclaimed, Bool.false_eq_true, if_false, own]

/-- A pattern write with CHR RAM changes the byte at its offset (R486). -/
theorem State.ppuWrite_ram (s : State) {a : BitVec 14} (d : Byte) (h : a.toNat < 0x2000) {c : Cart} (hc : s.cart = some c)
    (ram : c.chrBanks = 0) :
    s.ppuWrite a d = { s with cart := some { c with
      chr := if chrOffsetOf c a.toNat < c.chrSize then Mem.write c.chr (chrOffsetOf c a.toNat) d else c.chr } } := by
  have claimed : c.ppuWrite a d = ⟨{ c with
      chr := if chrOffsetOf c a.toNat < c.chrSize then Mem.write c.chr (chrOffsetOf c a.toNat) d else c.chr }, true⟩ := by
    rw [Cart.ppuWrite, if_pos ⟨h, c.chrIsRam_iff.mpr ram⟩]
    dsimp only
    rw [c.chrOffset_eq h]
    split <;> rfl
  unfold State.ppuWrite
  rw [hc]
  dsimp only
  rw [claimed]
  rfl

/-! ## The address space: what each write changes -/

/-- A byte of CHR is read through the registers of the cartridge, not through its storage (R486). -/
theorem chrOffsetOf_withChr (c : Cart) (chr : Mem) (a : Nat) : chrOffsetOf { c with chr } a = chrOffsetOf c a := by
  obtain ⟨pb, cb, id, hw, prg, chr, mapper⟩ := c
  cases mapper <;> rfl

/-- Reads above pattern space depend on the picture unit and the mirroring mode (R352). -/
theorem State.ppuRead_above {s t : State} {b : BitVec 14} (hb : 0x2000 ≤ b.toNat) (ppu : t.ppu = s.ppu)
    (mirror : t.mirror = s.mirror) : t.ppuRead b = s.ppuRead b := by
  by_cases table : b.toNat < 0x3F00
  · rw [t.ppuRead_nametable hb table, s.ppuRead_nametable hb table, ppu, mirror]
  · rw [t.ppuRead_palette (by omega), s.ppuRead_palette (by omega), ppu]

/-- Pattern reads depend on the cartridge alone (R352, R486). -/
theorem State.ppuRead_below {s t : State} {b : BitVec 14} (hb : b.toNat < 0x2000) (cart : t.cart = s.cart) :
    t.ppuRead b = s.ppuRead b := by
  cases hc : s.cart with
  | none => rw [t.ppuRead_pattern_none hb (cart.trans hc), s.ppuRead_pattern_none hb hc]
  | some c => rw [t.ppuRead_pattern hb (cart.trans hc), s.ppuRead_pattern hb hc]

theorem State.ppuRead_after_palette (s : State) {a : BitVec 14} (b : BitVec 14) (d : Byte) (ha : 0x3F00 ≤ a.toNat) :
    (s.ppuWrite a d).ppuRead b =
      if 0x3F00 ≤ b.toNat ∧ paletteEntry b.toNat = paletteEntry a.toNat then
        d &&& (if s.ppu.mask.getLsbD 0 then 0x30 else 0x3F)
      else s.ppuRead b := by
  rw [s.ppuWrite_palette d ha]
  by_cases hb : 0x3F00 ≤ b.toNat
  · rw [State.ppuRead_palette _ hb, s.ppuRead_palette hb, Ppu.palRead, Ppu.palRead, palIndex_eq, Mem.read_write]
    simp only [hb, true_and]
    split <;> rfl
  rw [if_neg fun h => hb h.1]
  by_cases pattern : b.toNat < 0x2000
  · exact State.ppuRead_below pattern rfl
  · rw [State.ppuRead_nametable _ (by omega) (by omega), State.ppuRead_nametable _ (by omega) (by omega)]
    rfl

theorem State.ppuRead_after_nametable (s : State) {a : BitVec 14} (b : BitVec 14) (d : Byte) (ha : 0x2000 ≤ a.toNat)
    (ha' : a.toNat < 0x3F00) :
    (s.ppuWrite a d).ppuRead b =
      if (0x2000 ≤ b.toNat ∧ b.toNat < 0x3F00) ∧ nametableCell s b.toNat = nametableCell s a.toNat then d
      else s.ppuRead b := by
  rw [s.ppuWrite_nametable d ha ha']
  by_cases hb : 0x2000 ≤ b.toNat ∧ b.toNat < 0x3F00
  · rw [State.ppuRead_nametable _ hb.1 hb.2, s.ppuRead_nametable hb.1 hb.2]
    show Mem.read (Mem.write _ _ _) (ntIndex s.mirror b.toNat) = _
    simp only [Mem.read_write, ntIndex_eq_iff, hb, true_and, and_self]
  rw [if_neg fun h => hb h.1]
  by_cases pattern : b.toNat < 0x2000
  · exact State.ppuRead_below pattern rfl
  · rw [State.ppuRead_palette _ (by omega), s.ppuRead_palette (by omega)]
    rfl

/-- With CHR RAM a pattern write leaves the picture unit and the mirroring mode alone. -/
theorem State.ppuWrite_pattern_above (s : State) {a b : BitVec 14} (d : Byte) (ha : a.toNat < 0x2000)
    (hb : 0x2000 ≤ b.toNat) : (s.ppuWrite a d).ppuRead b = s.ppuRead b := by
  by_cases ram : ∃ c, s.cart = some c ∧ c.chrBanks = 0
  · obtain ⟨c, hc, ram⟩ := ram
    rw [s.ppuWrite_ram d ha hc ram]
    refine State.ppuRead_above hb rfl ?_
    rw [State.mirror, State.mirror, hc]
    rfl
  · rw [s.ppuWrite_rom d ha fun c hc h => ram ⟨c, hc, h⟩]

theorem State.ppuRead_after_pattern (s : State) {a b : BitVec 14} (d : Byte) (ha : a.toNat < 0x2000)
    (hb : b.toNat < 0x2000) {c : Cart} (hc : s.cart = some c) (ram : c.chrBanks = 0) :
    (s.ppuWrite a d).ppuRead b =
      if chrOffsetOf c a.toNat < 8192 ∧ chrOffsetOf c b.toNat = chrOffsetOf c a.toNat then d else s.ppuRead b := by
  have size : c.chrSize = 8192 := by rw [Cart.chrSize, ram]; rfl
  rw [s.ppuWrite_ram d ha hc ram, State.ppuRead_pattern _ hb rfl, s.ppuRead_pattern hb hc, chrOffsetOf_withChr]
  show (if chrOffsetOf c b.toNat < c.chrSize then Mem.read (ite _ _ _) _ else 0) = _
  rw [size]
  by_cases inside : chrOffsetOf c a.toNat < 8192
  · simp only [inside, if_true, true_and, Mem.read_write]
    by_cases same : chrOffsetOf c b.toNat = chrOffsetOf c a.toNat
    · rw [if_pos (by omega), if_pos same, if_pos same]
    · rw [if_neg same, if_neg same]
  · simp only [inside, if_false, false_and]

/-- Settles O48: the three kinds of write by the three kinds of read. -/
theorem ppuSpaceReadAfterWrite : Obligations.PpuSpaceReadAfterWrite := fun s _ b d =>
  ⟨s.ppuRead_after_palette b d, s.ppuRead_after_nametable b d, s.ppuWrite_pattern_above d, s.ppuWrite_rom d,
    fun ha hb _ => s.ppuRead_after_pattern d ha hb, fun hb _ hc => s.ppuRead_pattern hb hc,
    fun hb => s.ppuRead_pattern_none hb⟩

end Sys2Proof.Machine

/-! Proofs of the audio family: the registers, the timers, the frame sequencer and the sample timing. -/

namespace Sys2Proof.Machine

open Sys2Proof.Stated

/-! ## Fields as numbers -/

theorem extractLsb'_eq_ofNat {w : Nat} (x : BitVec w) (lo n : Nat) :
    x.extractLsb' lo n = BitVec.ofNat n (x.toNat / 2 ^ lo) := by
  rw [← Nat.shiftRight_eq_div_pow]
  rfl

/-- The low bits as a number. -/
theorem extractLsb'_low {w : Nat} (x : BitVec w) (n : Nat) : x.extractLsb' 0 n = BitVec.ofNat n (x.toNat % 2 ^ n) := by
  apply BitVec.eq_of_toNat_eq
  simp

/-- A replaced field as a number: what is above it, the field, what is below it (R7). -/
theorem toNat_setField {w n : Nat} (x : BitVec w) {lo : Nat} (v : BitVec n) (fits : lo + n ≤ w) :
    (setField x lo v).toNat = 2 ^ lo * (2 ^ n * (x.toNat / 2 ^ (lo + n)) + v.toNat) + x.toNat % 2 ^ lo := by
  apply Nat.eq_of_testBit_eq
  intro j
  rw [Nat.testBit_two_pow_mul_add _ (Nat.mod_lt _ (Nat.two_pow_pos lo)), Nat.testBit_two_pow_mul_add _ v.isLt,
    Nat.testBit_mod_two_pow, Nat.testBit_div_two_pow]
  show (setField x lo v).getLsbD j = _
  rw [getLsbD_setField x v fits]
  by_cases low : j < lo
  · rw [if_neg (by omega), if_pos low, decide_eq_true low, Bool.true_and]
    rfl
  by_cases field : j - lo < n
  · rw [if_pos (by omega), if_neg low, if_pos field]
    rfl
  · rw [if_neg (by omega), if_neg low, if_neg field, show j - lo - n + (lo + n) = j by omega]
    rfl

/-- A bit replaced is a field of one bit replaced. -/
theorem setBit_eq_setField {w : Nat} (x : BitVec w) {k : Nat} (b : Bool) (h : k < w) :
    setBit x k b = setField x k (BitVec.ofBool b) := by
  apply BitVec.eq_of_getLsbD_eq
  intro j hj
  rw [getLsbD_setBit, getLsbD_setField _ _ (by omega)]
  by_cases same : j = k
  · subst same
    simp [h]
  · rw [if_neg (by omega), if_neg (by omega)]

/-- A bit put before others, as a number. -/
theorem toNat_ofBool_append {n : Nat} (b : Bool) (x : BitVec n) :
    (BitVec.ofBool b ++ x).toNat = 2 ^ n * b.toNat + x.toNat := by
  rw [BitVec.toNat_append, Nat.shiftLeft_eq, Nat.mul_comm, ← Nat.two_pow_add_eq_or_of_lt x.isLt, BitVec.toNat_ofBool]

/-! ## Registers -/

theorem lengthTable_toNat : ∀ i : Fin 32, lengthTable[i].toNat = lengths.getD i 0 := by decide

/-- The length table (R447). -/
theorem toNat_lengthLoad (d : Byte) : (lengthLoad d).toNat = lengths.getD (d.toNat / 8) 0 := by
  have := d.isLt
  have index : (d.extractLsb' 3 5).toNat = d.toNat / 8 := by
    rw [extractLsb'_eq_ofNat, BitVec.toNat_ofNat]
    omega
  rw [← index]
  exact lengthTable_toNat ⟨_, (d.extractLsb' 3 5).isLt⟩

theorem lengthLoaded (enabled : Bool) (old d : Byte) :
    LengthLoaded enabled old d (if enabled then lengthLoad d else old) := by
  unfold LengthLoaded
  rw [apply_ite BitVec.toNat, toNat_lengthLoad]

/-- The duty table (R451). -/
theorem toNat_dutyPattern (duty : BitVec 2) :
    (dutyPattern duty).toNat = [0b01000000, 0b01100000, 0b01111000, 0b10011111].getD duty.toNat 0 := by
  have := duty.isLt
  have duties : duty.toNat = 0 ∨ duty.toNat = 1 ∨ duty.toNat = 2 ∨ duty.toNat = 3 := by omega
  unfold dutyPattern
  rcases duties with h | h | h | h <;> rw [h] <;> rfl

/-- The volume bits of a control byte (R423, R427). -/
theorem volume_eq_ofNat (d : Byte) : d.extractLsb' 0 4 = BitVec.ofNat 4 (d.toNat % 16) := extractLsb'_low d 4

theorem Pulse.writeControl_eq (p : Pulse) (d : Byte) : p.writeControl d = pulseControl p d := by
  have duty : d.extractLsb' 6 2 = BitVec.ofNat 2 (d.toNat / 64) := extractLsb'_eq_ofNat d 6 2
  rw [Pulse.writeControl, pulseControl, duty, volume_eq_ofNat]

theorem Pulse.writeSweep_eq (p : Pulse) (d : Byte) : p.writeSweep d = pulseSweep p d := by
  have shift : d.extractLsb' 0 3 = BitVec.ofNat 3 (d.toNat % 8) := extractLsb'_low d 3
  have period : d.extractLsb' 4 3 = BitVec.ofNat 3 (d.toNat / 16 % 8) := by
    apply BitVec.eq_of_toNat_eq
    simp [Nat.shiftRight_eq_div_pow]
  rw [Pulse.writeSweep, pulseSweep, shift, period]

theorem Pulse.writePeriodLow_eq (p : Pulse) (d : Byte) : p.writePeriodLow d = pulsePeriodLow p d := by
  have field : setField p.period 0 d = BitVec.ofNat 11 (p.period.toNat / 256 * 256 + d.toNat) := by
    have := p.period.isLt
    have := d.isLt
    apply BitVec.eq_of_toNat_eq
    rw [toNat_setField _ _ (by decide), BitVec.toNat_ofNat]
    omega
  rw [Pulse.writePeriodLow, pulsePeriodLow, field]

theorem Noise.writeControl_eq (z : Noise) (d : Byte) : z.writeControl d = { z with
    halt := d.getLsbD 5
    env := { z.env with constant := d.getLsbD 4, volume := BitVec.ofNat 4 (d.toNat % 16) } } := by
  rw [Noise.writeControl, volume_eq_ofNat]

theorem Noise.writePeriod_eq (z : Noise) (d : Byte) :
    z.writePeriod d = { z with periodIndex := BitVec.ofNat 4 (d.toNat % 16) } := by
  rw [Noise.writePeriod, volume_eq_ofNat]

/-- The period-high and length register (R426, R451). -/
theorem Pulse.writePeriodHigh_restarts (p : Pulse) (d : Byte) : PulseRestarts p d (p.writePeriodHigh d) := by
  refine ⟨rfl, ?_, toNat_dutyPattern p.duty, lengthLoaded _ _ _⟩
  have := p.period.isLt
  show (setField p.period 8 (d.extractLsb' 0 3)).toNat = _
  rw [toNat_setField _ _ (by decide), extractLsb'_eq_ofNat, BitVec.toNat_ofNat]
  omega

theorem State.memRead_audioStatus (s : State) : s.memRead 0x4015 = ⟨s.apu.status, s⟩ := by
  rw [s.memRead_low (by decide)]
  rfl

/-- The status byte bit by bit (R432). -/
theorem Apu.status_bits (u : Apu) (k : Nat) : u.status.getLsbD k =
    ((k == 0 && u.pulse1.length != 0) || (k == 1 && u.pulse2.length != 0) || (k == 3 && u.noise.length != 0)) := by
  simp only [Apu.status, BitVec.getLsbD_or, getLsbD_bitAt, beq_eq_decide]
  simp [Bool.and_comm]

/-- Settles O58: each register's write with its fields as numbers. -/
theorem audioStatusAndLengths : Obligations.AudioStatusAndLengths := by
  intro s d
  have write : ∀ a : Addr, isAudioWrite a.toNat = true → s.memWrite a d = { s with apu := s.apu.write a.toNat d } :=
    fun a => s.memWrite_audio d
  refine ⟨?_, ?_, ?_, ?_, ?_, ?_, ?_, ?_, ?_, by rw [s.memRead_audioStatus], fun k => by
    rw [s.memRead_audioStatus]; exact s.apu.status_bits k, ?_, ?_, ?_⟩
  · rw [write _ (by decide), ← Pulse.writeControl_eq]; rfl
  · rw [write _ (by decide), ← Pulse.writeSweep_eq]; rfl
  · rw [write _ (by decide), ← Pulse.writePeriodLow_eq]; rfl
  · rw [write _ (by decide), ← Pulse.writeControl_eq]; rfl
  · rw [write _ (by decide), ← Pulse.writeSweep_eq]; rfl
  · rw [write _ (by decide), ← Pulse.writePeriodLow_eq]; rfl
  · rw [write _ (by decide), ← Noise.writeControl_eq]; rfl
  · rw [write _ (by decide), ← Noise.writePeriod_eq]; rfl
  · exact write _ (by decide)
  · rw [write _ (by decide)]
    exact ⟨rfl, s.apu.pulse1.writePeriodHigh_restarts d⟩
  · rw [write _ (by decide)]
    exact ⟨rfl, s.apu.pulse2.writePeriodHigh_restarts d⟩
  · rw [write _ (by decide)]
    exact ⟨rfl, lengthLoaded _ _ _⟩

/-! ## Timers -/

/-- The pulse waveform turned right by one (R450). -/
def turnRight (seq : Byte) : Byte := bitAt 8 (seq.getLsbD 0) 7 ||| (seq >>> 1)

theorem getLsbD_turnRight (seq : Byte) (i : Nat) :
    (turnRight seq).getLsbD i = ((seq.getLsbD 0 && decide (i = 7)) || seq.getLsbD (1 + i)) := by
  simp [turnRight, getLsbD_bitAt]

/-- Eight turns bring the waveform back. -/
theorem turnRight_eight (seq : Byte) : turnRight^[8] seq = seq := by
  show turnRight (turnRight (turnRight (turnRight (turnRight (turnRight (turnRight (turnRight seq))))))) = seq
  apply BitVec.eq_of_getLsbD_eq
  intro i hi
  simp only [getLsbD_turnRight]
  match i, hi with
  | 0, _ | 1, _ | 2, _ | 3, _ | 4, _ | 5, _ | 6, _ | 7, _ => simp

theorem bit0_eq_mod {w : Nat} (x : BitVec w) : (x.getLsbD 0).toNat = x.toNat % 2 := by
  rw [BitVec.getLsbD, Nat.testBit_zero]
  rcases Nat.mod_two_eq_zero_or_one x.toNat with h | h <;> simp [h]

theorem turnRight_eq_ofNat (seq : Byte) : turnRight seq = BitVec.ofNat 8 (128 * (seq.toNat % 2) + seq.toNat / 2) := by
  have joined : turnRight seq = BitVec.ofBool (seq.getLsbD 0) ++ seq.extractLsb' 1 7 := by
    apply BitVec.eq_of_getLsbD_eq
    intro i hi
    simp only [getLsbD_turnRight, BitVec.getLsbD_append, BitVec.getLsbD_extractLsb']
    match i, hi with
    | 0, _ | 1, _ | 2, _ | 3, _ | 4, _ | 5, _ | 6, _ | 7, _ => simp
  have := seq.isLt
  have value := toNat_ofBool_append (seq.getLsbD 0) (seq.extractLsb' 1 7)
  rw [← joined, bit0_eq_mod, extractLsb'_eq_ofNat, BitVec.toNat_ofNat, pow_one] at value
  apply BitVec.eq_of_toNat_eq
  rw [value, BitVec.toNat_ofNat, Nat.mod_eq_of_lt (b := 2 ^ 7) (by omega), Nat.mod_eq_of_lt (b := 2 ^ 8) (by omega)]
  rfl

theorem Pulse.timerTick_down {p : Pulse} (h : 0 < p.timer.toNat) :
    p.timerTick = { p with timer := BitVec.ofNat 11 (p.timer.toNat - 1) } := by
  have less : p.timer - 1 = BitVec.ofNat 11 (p.timer.toNat - 1) := by bv_omega
  unfold Pulse.timerTick
  rw [if_neg fun h0 => by simp [h0] at h, less]

theorem Pulse.timerTick_zero {p : Pulse} (h : p.timer.toNat = 0) :
    p.timerTick = { p with timer := p.period, seq := turnRight p.seq } :=
  if_pos (BitVec.eq_of_toNat_eq h)

/-- A channel with another timer and waveform. -/
def Pulse.at (p : Pulse) (timer : BitVec 11) (seq : Byte) : Pulse := { p with timer, seq }

/-- Ticks count the timer down (R450). -/
theorem Pulse.ticks_down (p : Pulse) (timer : BitVec 11) (seq : Byte) (k : Nat) (h : k ≤ timer.toNat) :
    Pulse.timerTick^[k] (p.at timer seq) = p.at (BitVec.ofNat 11 (timer.toNat - k)) seq := by
  induction k with
  | zero => simp
  | succ k ih =>
    have := timer.isLt
    have before : (BitVec.ofNat 11 (timer.toNat - k)).toNat = timer.toNat - k := by
      rw [BitVec.toNat_ofNat]
      omega
    rw [Function.iterate_succ_apply', ih (by omega), Pulse.timerTick_down (p := p.at _ seq) (by
      show 0 < (BitVec.ofNat 11 (timer.toNat - k)).toNat; omega)]
    show p.at (BitVec.ofNat 11 ((BitVec.ofNat 11 (timer.toNat - k)).toNat - 1)) seq = _
    rw [before, Nat.sub_sub]

/-- One more than the timer's ticks turn the waveform once and reload the timer. -/
theorem Pulse.ticks_turn (p : Pulse) (timer : BitVec 11) (seq : Byte) :
    Pulse.timerTick^[timer.toNat + 1] (p.at timer seq) = p.at p.period (turnRight seq) := by
  rw [Function.iterate_succ_apply', p.ticks_down timer seq _ (le_refl _)]
  exact Pulse.timerTick_zero (by simp [Pulse.at])

/-- From a reloaded timer `j` turns take `j * (period + 1)` ticks. -/
theorem Pulse.ticks_turns (p : Pulse) (seq : Byte) (j : Nat) :
    Pulse.timerTick^[j * (p.period.toNat + 1)] (p.at p.period seq) = p.at p.period (turnRight^[j] seq) := by
  induction j with
  | zero => simp
  | succ j ih =>
    rw [Nat.succ_mul, Nat.add_comm, Function.iterate_add_apply, ih, p.ticks_turn, Function.iterate_succ_apply']

/-- Eight turns and the rest of a count-down give the channel back (R450, R451). -/
theorem Pulse.waveform_period (p : Pulse) (h : p.timer.toNat ≤ p.period.toNat) :
    Pulse.timerTick^[8 * (p.period.toNat + 1)] p = p := by
  have split : 8 * (p.period.toNat + 1)
      = (p.period.toNat - p.timer.toNat) + (7 * (p.period.toNat + 1) + (p.timer.toNat + 1)) := by omega
  have start : p = p.at p.timer p.seq := rfl
  have first : Pulse.timerTick^[p.timer.toNat + 1] p = p.at p.period (turnRight p.seq) := p.ticks_turn p.timer p.seq
  have back : p.period.toNat - (p.period.toNat - p.timer.toNat) = p.timer.toNat := by omega
  rw [split, Function.iterate_add_apply, Function.iterate_add_apply, first, p.ticks_turns, ← Function.iterate_succ_apply,
    turnRight_eight, p.ticks_down _ _ _ (Nat.sub_le _ _), back, BitVec.ofNat_toNat, BitVec.setWidth_eq, ← start]

theorem noisePeriod_eq (i : BitVec 4) : noisePeriod i = noisePeriods.getD i.toNat 0 := by
  have table : ∀ k : Fin 16, noisePeriodTable[k] = noisePeriods.getD k 0 := by decide
  exact table ⟨i.toNat, i.isLt⟩

theorem noisePeriod_le (i : BitVec 4) : noisePeriod i ≤ 4068 := by
  have table : ∀ k : Fin 16, noisePeriodTable[k] ≤ 4068 := by decide
  exact table ⟨i.toNat, i.isLt⟩

/-- Settles O59: a tick of each timer as numbers, and the period of the waveform. -/
theorem pulseWaveformPeriod : Obligations.PulseWaveformPeriod := by
  refine ⟨fun p => ⟨Pulse.timerTick_down, fun h => ?_⟩, fun z => ⟨fun h => ?_, fun h => ?_⟩, Pulse.waveform_period⟩
  · rw [Pulse.timerTick_zero h, turnRight_eq_ofNat]
  · have less : z.timer - 1 = BitVec.ofNat 12 (z.timer.toNat - 1) := by bv_omega
    unfold Noise.timerTick
    rw [if_neg fun h0 => by simp [h0] at h, less]
  · have reload : z.timerTick = _ := if_pos (BitVec.eq_of_toNat_eq h)
    have := noisePeriod_le z.periodIndex
    rw [reload]
    refine ⟨rfl, ?_, ?_, fun k hk => ?_⟩
    · rw [← noisePeriod_eq, BitVec.toNat_ofNat]
      omega
    · rw [BitVec.getLsbD_or, getLsbD_bitAt, BitVec.getLsbD_ushiftRight, BitVec.getLsbD_of_ge z.lfsr (1 + 14) (by decide)]
      simp
    · rw [BitVec.getLsbD_or, getLsbD_bitAt, BitVec.getLsbD_ushiftRight, Nat.add_comm 1 k]
      simp [show k ≠ 14 by omega]

end Sys2Proof.Machine

/-! Proofs of the audio family, continued: the frame sequencer in a bus step, its three kinds of clock as numbers, and the
sample timing on real numbers. -/

namespace Sys2Proof.Machine

open Sys2Proof.Stated

/-! ## The frame sequencer -/

theorem isQuarter_iff (c : Nat) : c ∈ [3729, 7457, 11186, 14916] ↔ c = 3729 ∨ c = 7457 ∨ c = 11186 ∨ c = 14916 := by simp

theorem isHalf_iff (c : Nat) : c ∈ [7457, 14916] ↔ c = 7457 ∨ c = 14916 := by simp

/-- What an audio tick makes of each channel: the sequencer's clocks, then the timer (R440 to R443). -/
theorem Apu.audioTick_eq (u : Apu) {c : Nat} (hc : u.frameCtr + 1 = c) :
    u.audioTick = { u with
      pulse1 := pulseTick c true u.pulse1, pulse2 := pulseTick c false u.pulse2, noise := noiseTick c u.noise
      frameCtr := if c = 14916 then 0 else c } := by
  simp only [Apu.audioTick, Apu.frameTick, pulseTick, noiseTick, isQuarter_iff, isHalf_iff, hc]
  by_cases quarter : c = 3729 ∨ c = 7457 ∨ c = 11186 ∨ c = 14916 <;> by_cases half : c = 7457 ∨ c = 14916
    <;> simp only [if_pos, quarter, half, if_false] <;> rfl

/-! ## The clocks as numbers -/

theorem Envelope.clock_start {e : Envelope} (loop : Bool) (h : e.start = true) :
    e.clock loop = { e with start := false, decay := 15, divider := e.volume } := if_pos h

theorem Envelope.clock_reload {e : Envelope} (loop : Bool) (h : e.start = false) (h0 : e.divider = 0) :
    e.clock loop = { e with
      divider := e.volume, decay := if e.decay ≠ 0 then e.decay - 1 else if loop then 15 else e.decay } := by
  rw [Envelope.clock, if_neg (by rw [h]; decide), if_pos h0]

theorem Envelope.clock_down {e : Envelope} (loop : Bool) (h : e.start = false) (h0 : e.divider ≠ 0) :
    e.clock loop = { e with divider := e.divider - 1 } := by
  rw [Envelope.clock, if_neg (by rw [h]; decide), if_neg h0]

/-- The decay counts down to 0, or loops (R445). -/
theorem toNat_nextDecay (decay : BitVec 4) (loop : Bool) :
    (if decay ≠ 0 then decay - 1 else if loop then 15 else decay : BitVec 4).toNat =
      if 0 < decay.toNat then decay.toNat - 1 else if loop then 15 else 0 := by
  by_cases h : decay = 0
  · subst h
    cases loop <;> rfl
  · have positive : 0 < decay.toNat := by bv_omega
    rw [if_pos h, if_pos positive]
    bv_omega

theorem toNat_lengthClock (halt : Bool) (n : Byte) :
    (lengthClock halt n).toNat = if halt then n.toNat else n.toNat - 1 := by
  cases halt with
  | true => rfl
  | false =>
    by_cases h : n = 0
    · subst h; rfl
    · have running : lengthClock false n = n - 1 := if_pos (by simpa using h)
      rw [running]
      show (n - 1).toNat = n.toNat - 1
      bv_omega

/-! ## The sweep -/

/-- The sweep target as an integer, before it is kept from going below 0 (R448, C9). -/
def sweepGoal (p : Pulse) (first : Bool) : Int :=
  if p.sw.negate then (p.period.toNat : Int) - (p.period.toNat / 2 ^ p.sw.shift.toNat : Nat) - (if first then 1 else 0)
  else (p.period.toNat : Int) + (p.period.toNat / 2 ^ p.sw.shift.toNat : Nat)

theorem sweepTarget_eq (p : Pulse) (first : Bool) : (p.sweepTarget first : Int) = max (sweepGoal p first) 0 := by
  have below : p.period.toNat / 2 ^ p.sw.shift.toNat ≤ p.period.toNat := Nat.div_le_self _ _
  unfold Pulse.sweepTarget sweepGoal
  rw [Nat.shiftRight_eq_div_pow]
  generalize p.period.toNat / 2 ^ p.sw.shift.toNat = change at below
  dsimp only
  cases p.sw.negate <;> cases first <;> simp only [if_true, if_false, Bool.false_eq_true] <;> omega

theorem sweepMute_iff (p : Pulse) (first : Bool) :
    p.sweepMute first = true ↔ p.period.toNat < 8 ∨ 0x7FF < max (sweepGoal p first) 0 := by
  rw [← sweepTarget_eq, Pulse.sweepMute, Bool.or_eq_true, decide_eq_true_eq, decide_eq_true_eq]
  omega

/-- The sweep writes its target exactly when its divider is 0, it is enabled with a shift, and does not mute (R448). -/
theorem sweepClock_period (p : Pulse) (first : Bool) : ((p.sweepClock first).period.toNat : Int) =
    if p.sw.divider = 0 ∧ p.sw.enable = true ∧ p.sw.shift ≠ 0 ∧ 8 ≤ p.period.toNat ∧ sweepGoal p first ≤ 0x7FF then
      max (sweepGoal p first) 0
    else p.period.toNat := by
  have target := sweepTarget_eq p first
  have audible : ¬p.sweepMute first = true ↔ 8 ≤ p.period.toNat ∧ sweepGoal p first ≤ 0x7FF := by
    rw [sweepMute_iff]
    omega
  unfold Pulse.sweepClock
  dsimp only
  simp only [audible]
  split
  · next h =>
    obtain ⟨-, -, -, -, inside⟩ := h
    rw [BitVec.toNat_ofNat, Nat.mod_eq_of_lt (by omega), target]
  · rfl

theorem sweepClock_unit (p : Pulse) (first : Bool) : (p.sweepClock first).sw =
    if p.sw.divider = 0 ∨ p.sw.reload = true then { p.sw with divider := p.sw.period, reload := false }
    else { p.sw with divider := BitVec.ofNat 3 (p.sw.divider.toNat - 1) } := by
  unfold Pulse.sweepClock
  dsimp only
  split
  · rfl
  · next h =>
    have less : p.sw.divider - 1 = BitVec.ofNat 3 (p.sw.divider.toNat - 1) := by
      have : p.sw.divider ≠ 0 := fun h0 => h (.inl h0)
      bv_omega
    rw [less]

/-! ## Sample timing -/

/-- `AudioTick()` on real numbers (R307). -/
theorem audioTick_real (s : State) :
    let time := s.bus.audioTime.value namedReal + s.params.tStep.value
    (s.params.tSample.value ≤ time → s.audioTick.bus.audioTime.value namedReal = time - s.params.tSample.value
        ∧ s.audioTick = { s with bus := { s.bus with
            audioTime := s.audioTick.bus.audioTime, sample := s.apu.outputSample, sampleReady := true } })
      ∧ (time < s.params.tSample.value → s.audioTick.bus.audioTime.value namedReal = time
        ∧ s.audioTick = { s with bus := { s.bus with
            audioTime := s.audioTick.bus.audioTime, sampleReady := false } }) := by
  intro time
  have sum : (s.bus.audioTime.plus 1 s.params.tStep).value namedReal = time := by
    rw [AudioTime.value_plus, Int.cast_one, one_mul]
  have rest : ((s.bus.audioTime.plus 1 s.params.tStep).plus (-1) s.params.tSample).value namedReal
      = time - s.params.tSample.value := by
    rw [AudioTime.value_plus, sum, Int.cast_neg, Int.cast_one]
    ring
  have ready := AudioTime.nonneg_iff ((s.bus.audioTime.plus 1 s.params.tStep).plus (-1) s.params.tSample)
  rw [rest, sub_nonneg] at ready
  rcases s.audioTick_cases with ⟨up, tick⟩ | ⟨down, tick⟩
  · rw [tick]
    exact ⟨fun _ => ⟨rest, rfl⟩, fun h => absurd (ready.mp up) (not_le.mpr h)⟩
  · rw [tick]
    refine ⟨fun h => ?_, fun _ => ⟨sum, rfl⟩⟩
    rw [ready.mpr h] at down
    exact absurd down (by decide)

/-- Settles O60: the sequencer's place in the step, one clock of each unit, and the sample timing. -/
theorem envelopeLengthSweep : Obligations.EnvelopeLengthSweep := by
  refine ⟨fun s => ⟨fun tick => ?_, fun between => ?_, ?_⟩, fun e loop h h0 => ?_, fun _ loop => Envelope.clock_start loop,
    fun e loop h h0 => ?_, toNat_lengthClock, fun p first => ?_, fun s => ?_⟩
  · rw [s.beforeSlot_apu, Apu.clock, if_pos tick, tick, Apu.audioTick_eq s.apu rfl]
  · rw [s.beforeSlot_apu, Apu.clock, if_neg between]
  · obtain ⟨t, slot, next⟩ := step_next s
    obtain ⟨-, apu, -⟩ := t.afterSlot_facts
    refine ⟨t, slot, next, apu, fun h => ?_⟩
    exact (Host.Outcome.next.inj (slot.symm.trans (State.slot_between h)))
  · rw [Envelope.clock_reload loop h h0]
    exact ⟨toNat_nextDecay e.decay loop, rfl⟩
  · rw [Envelope.clock_down loop h h0]
    exact ⟨rfl, by show (e.divider - 1).toNat = _; bv_omega⟩
  · exact ⟨sweepTarget_eq p first, sweepMute_iff p first, sweepClock_period p first, sweepClock_unit p first, rfl⟩
  · obtain ⟨ready, waits⟩ := audioTick_real s
    exact ⟨HostReal.value_pos _, HostReal.value_pos _, ready, waits⟩

end Sys2Proof.Machine

/-! Proofs of the picture unit's family, its clock: the scroll register as numbers, what a dot of a line makes of each
register, and the flags. -/

namespace Sys2Proof.Machine

open Sys2Proof.Stated

/-! ## The scroll register as its five fields -/

theorem toNat_coarseX (v : BitVec 15) : (coarseX v).toNat = (scrollOf v).coarseX := by
  rw [coarseX, extractLsb'_low, BitVec.toNat_ofNat, Nat.mod_mod]
  rfl

theorem toNat_coarseY (v : BitVec 15) : (coarseY v).toNat = (scrollOf v).coarseY := by
  rw [coarseY, extractLsb'_eq_ofNat, BitVec.toNat_ofNat]
  rfl

theorem toNat_fineY (v : BitVec 15) : (fineY v).toNat = (scrollOf v).fineY := by
  have := v.isLt
  rw [fineY, extractLsb'_eq_ofNat, BitVec.toNat_ofNat]
  show v.toNat / 4096 % 8 = v.toNat / 4096
  omega

theorem toNat_getLsbD {w : Nat} (x : BitVec w) (k : Nat) : (x.getLsbD k).toNat = x.toNat / 2 ^ k % 2 := by
  rw [BitVec.getLsbD, Nat.testBit_eq_decide_div_mod_eq]
  rcases Nat.mod_two_eq_zero_or_one (x.toNat / 2 ^ k) with h | h <;> rw [h] <;> rfl

theorem tableX_eq (v : BitVec 15) : (v.getLsbD 10).toNat = (scrollOf v).tableX := toNat_getLsbD v 10

theorem tableY_eq (v : BitVec 15) : (v.getLsbD 11).toNat = (scrollOf v).tableY := toNat_getLsbD v 11

/-- Replacing a field of the register replaces that field and no other (R357). -/
theorem scrollOf_set_coarseX (v : BitVec 15) (x : BitVec 5) :
    scrollOf (setField v 0 x) = { scrollOf v with coarseX := x.toNat } := by
  have := x.isLt
  simp only [scrollOf, toNat_setField v x (show 0 + 5 ≤ 15 by decide), Scroll.mk.injEq]
  omega

theorem scrollOf_set_coarseY (v : BitVec 15) (x : BitVec 5) :
    scrollOf (setField v 5 x) = { scrollOf v with coarseY := x.toNat } := by
  have := x.isLt
  simp only [scrollOf, toNat_setField v x (show 5 + 5 ≤ 15 by decide), Scroll.mk.injEq]
  omega

theorem scrollOf_set_tableX (v : BitVec 15) (b : Bool) :
    scrollOf (setBit v 10 b) = { scrollOf v with tableX := b.toNat } := by
  have := Bool.toNat_lt b
  rw [setBit_eq_setField v b (by decide)]
  simp only [scrollOf, toNat_setField v (BitVec.ofBool b) (show 10 + 1 ≤ 15 by decide), BitVec.toNat_ofBool,
    Scroll.mk.injEq]
  omega

theorem scrollOf_set_tableY (v : BitVec 15) (b : Bool) :
    scrollOf (setBit v 11 b) = { scrollOf v with tableY := b.toNat } := by
  have := Bool.toNat_lt b
  rw [setBit_eq_setField v b (by decide)]
  simp only [scrollOf, toNat_setField v (BitVec.ofBool b) (show 11 + 1 ≤ 15 by decide), BitVec.toNat_ofBool,
    Scroll.mk.injEq]
  omega

theorem scrollOf_set_fineY (v : BitVec 15) (x : BitVec 3) :
    scrollOf (setField v 12 x) = { scrollOf v with fineY := x.toNat } := by
  have := x.isLt
  simp only [scrollOf, toNat_setField v x (show 12 + 3 ≤ 15 by decide), Scroll.mk.injEq]
  omega

theorem toNat_not (b : Bool) : (!b).toNat = 1 - b.toNat := by cases b <;> rfl

/-- `IncX()` (R371). -/
theorem scrollOf_incX (v : BitVec 15) : scrollOf (incX v) = (scrollOf v).nextX := by
  have last : coarseX v = 31 ↔ (scrollOf v).coarseX = 31 := by
    rw [← toNat_coarseX]
    bv_omega
  unfold incX Scroll.nextX
  by_cases h : coarseX v = 31
  · rw [if_pos h, if_pos (last.mp h), scrollOf_set_tableX, scrollOf_set_coarseX, toNat_not, tableX_eq]
    rfl
  · have next : (coarseX v + 1).toNat = (coarseX v).toNat + 1 := by bv_omega
    rw [if_neg h, if_neg (mt last.mpr h), scrollOf_set_coarseX, next, toNat_coarseX]

/-- `IncY()` (R372). -/
theorem scrollOf_incY (v : BitVec 15) : scrollOf (incY v) = (scrollOf v).nextY := by
  have fine : fineY v ≠ 7 ↔ (scrollOf v).fineY < 7 := by
    rw [← toNat_fineY]
    bv_omega
  have cleared := scrollOf_set_fineY v 0
  have coarse : (coarseY (setField v 12 (0 : BitVec 3))).toNat = (scrollOf v).coarseY := by rw [toNat_coarseY, cleared]
  have table : ((setField v 12 (0 : BitVec 3)).getLsbD 11).toNat = (scrollOf v).tableY := by rw [tableY_eq, cleared]
  unfold incY Scroll.nextY
  by_cases h : fineY v ≠ 7
  · have next : (fineY v + 1).toNat = (fineY v).toNat + 1 := by bv_omega
    rw [if_pos h, if_pos (fine.mp h), scrollOf_set_fineY, next, toNat_fineY]
  rw [if_neg h, if_neg (mt fine.mpr h)]
  dsimp only
  generalize setField v 12 (0 : BitVec 3) = c at cleared coarse table ⊢
  by_cases h29 : coarseY c = 29
  · rw [if_pos h29, if_pos (by rw [← coarse, h29]; rfl), scrollOf_set_tableY, scrollOf_set_coarseY, toNat_not, table,
      cleared]
    rfl
  by_cases h31 : coarseY c = 31
  · rw [if_neg h29, if_pos h31, if_neg (by rw [← coarse, h31]; decide), if_pos (by rw [← coarse, h31]; rfl),
      scrollOf_set_coarseY, cleared]
    rfl
  · have n29 : (scrollOf v).coarseY ≠ 29 := by rw [← coarse]; bv_omega
    have n31 : (scrollOf v).coarseY ≠ 31 := by rw [← coarse]; bv_omega
    have next : (coarseY c + 1).toNat = (coarseY c).toNat + 1 := by bv_omega
    rw [if_neg h29, if_neg h31, if_neg n29, if_neg n31, scrollOf_set_coarseY, next, coarse, cleared]
    rfl

/-- `TransferX()` (R373). -/
theorem scrollOf_transferX (v t : BitVec 15) : scrollOf (transferX v t) =
    { scrollOf v with tableX := (scrollOf t).tableX, coarseX := (scrollOf t).coarseX } := by
  rw [transferX, scrollOf_set_coarseX, scrollOf_set_tableX, tableX_eq, toNat_coarseX]

/-- `TransferY()` (R374). -/
theorem scrollOf_transferY (v t : BitVec 15) : scrollOf (transferY v t) =
    { scrollOf t with tableX := (scrollOf v).tableX, coarseX := (scrollOf v).coarseX } := by
  rw [transferY, scrollOf_set_coarseY, scrollOf_set_tableY, scrollOf_set_fineY, tableY_eq, toNat_coarseY, toNat_fineY]

/-! ## The eight-dot sequence -/

/-- The six kinds of dot of the fetch sequence (R360, R365). -/
theorem Ppu.tileDot_cases (u : Ppu) (rd : BitVec 14 → Byte) {d : Nat} (h : 2 ≤ d) (render : Bool) :
    let f := u.tileDot rd d render
    (d % 8 = 1 ∧ f = u.loadShifters.fetchNT rd) ∨ (d % 8 = 3 ∧ f = u.fetchAT rd) ∨ (d % 8 = 5 ∧ f = u.fetchPatternLo rd)
      ∨ (d % 8 = 7 ∧ f = u.fetchPatternHi rd) ∨ (d % 8 = 0 ∧ f = { u with v := if render then incX u.v else u.v })
      ∨ ((d % 8 = 2 ∨ d % 8 = 4 ∨ d % 8 = 6) ∧ f = u) := by
  intro f
  have unfolded : f = u.tileDot rd d render := rfl
  unfold Ppu.tileDot at unfolded
  split at unfolded
  case h_1 => exact .inl ⟨by omega, unfolded⟩
  case h_2 => exact .inr (.inl ⟨by omega, unfolded⟩)
  case h_3 => exact .inr (.inr (.inl ⟨by omega, unfolded⟩))
  case h_4 => exact .inr (.inr (.inr (.inl ⟨by omega, unfolded⟩)))
  case h_5 => exact .inr (.inr (.inr (.inr (.inl ⟨by omega, by rw [unfolded]; split <;> rfl⟩))))
  case h_6 n0 n2 n4 n6 n7 =>
    change (d - 1) % 8 ≠ 0 at n0
    change (d - 1) % 8 ≠ 2 at n2
    change (d - 1) % 8 ≠ 4 at n4
    change (d - 1) % 8 ≠ 6 at n6
    change (d - 1) % 8 ≠ 7 at n7
    exact .inr (.inr (.inr (.inr (.inr ⟨by omega, unfolded⟩))))

/-- The flags, and what evaluation reads, which no dot of the fetch sequence touches, are the same in `u` and `w`. -/
structure Ppu.SameFlags (u w : Ppu) : Prop where
  vblank : w.vblank = u.vblank
  zeroHit : w.zeroHit = u.zeroHit
  overflow : w.overflow = u.overflow
  spriteCount : w.spriteCount = u.spriteCount
  zeroPossible : w.zeroPossible = u.zeroPossible
  oam : w.oam = u.oam
  ctrl : w.ctrl = u.ctrl

/-- A part of the unit that `f` leaves alone is left alone by `f` where `c` holds. -/
theorem Ppu.doIf_part {c : Prop} [Decidable c] {f : Ppu → Ppu} {α : Type} (part : Ppu → α)
    (h : ∀ v, part (f v) = part v) (u : Ppu) : part (doIf c f u) = part u := by
  unfold Ppu.doIf
  split
  · exact h u
  · rfl

theorem Ppu.SameFlags.refl (u : Ppu) : SameFlags u u := by constructor <;> rfl

theorem Ppu.SameFlags.trans {u v w : Ppu} (h : SameFlags u v) (k : SameFlags v w) : SameFlags u w :=
  ⟨k.vblank.trans h.vblank, k.zeroHit.trans h.zeroHit, k.overflow.trans h.overflow, k.spriteCount.trans h.spriteCount,
    k.zeroPossible.trans h.zeroPossible, k.oam.trans h.oam, k.ctrl.trans h.ctrl⟩

theorem Ppu.SameFlags.afterDoIf {c : Prop} [Decidable c] {f : Ppu → Ppu} {u v : Ppu} (h : SameFlags u v)
    (k : c → ∀ v, SameFlags v (f v)) : SameFlags u (doIf c f v) := by
  unfold Ppu.doIf
  split
  · exact h.trans (k ‹_› v)
  · exact h

section

variable (u : Ppu) (rd : BitVec 14 → Byte) {d : Nat} (render : Bool)

theorem Ppu.shift_flags (d : Nat) : SameFlags u (u.shift d) := by
  unfold Ppu.shift
  dsimp only
  split <;> split <;> constructor <;> rfl

@[simp] theorem Ppu.shift_v (d : Nat) : (u.shift d).v = u.v := by
  unfold Ppu.shift
  dsimp only
  split <;> split <;> rfl

theorem Ppu.tileDot_flags (h : 2 ≤ d) : SameFlags u (u.tileDot rd d render) := by
  rcases u.tileDot_cases rd h render with ⟨-, e⟩ | ⟨-, e⟩ | ⟨-, e⟩ | ⟨-, e⟩ | ⟨-, e⟩ | ⟨-, e⟩ <;> rw [e] <;> constructor <;> rfl

theorem Ppu.tileDot_slots (h : 2 ≤ d) : (u.tileDot rd d render).slots = u.slots := by
  rcases u.tileDot_cases rd h render with ⟨-, e⟩ | ⟨-, e⟩ | ⟨-, e⟩ | ⟨-, e⟩ | ⟨-, e⟩ | ⟨-, e⟩ <;> rw [e] <;> rfl

/-- `v` moves in the eighth dot alone (R371). -/
theorem Ppu.tileDot_v (h : 2 ≤ d) :
    (u.tileDot rd d render).v = if render = true ∧ d % 8 = 0 then incX u.v else u.v := by
  rcases u.tileDot_cases rd h render with ⟨k, e⟩ | ⟨k, e⟩ | ⟨k, e⟩ | ⟨k, e⟩ | ⟨k, e⟩ | ⟨k, e⟩ <;> rw [e]
  case inr.inr.inr.inr.inl => simp only [k, and_true]
  all_goals exact (if_neg (by omega)).symm

end

/-- One dot of the fetch sequence leaves the flags alone. -/
theorem Ppu.fetchDot_flags (u : Ppu) (rd : BitVec 14 → Byte) {d : Nat} (render : Bool) (h : 2 ≤ d) :
    SameFlags u ((u.shift d).tileDot rd d render) :=
  (u.shift_flags d).trans ((u.shift d).tileDot_flags rd render h)

/-! ## What a dot of a line makes of the flags and of `v` -/

/-- Evaluation depends on object memory and the sprite size alone (R380). -/
theorem Ppu.covers_congr {u w : Ppu} (oam : w.oam = u.oam) (ctrl : w.ctrl = u.ctrl) (line : Int) :
    w.covers line = u.covers line := by
  funext n
  rw [Ppu.covers, Ppu.covers, Ppu.spriteHeight, Ppu.spriteHeight, Ppu.tallSprites, Ppu.tallSprites, oam, ctrl]

/-- Equal flags before `EvaluateSprites()` give equal flags after it. -/
theorem Ppu.SameFlags.evaluate {c : Prop} [Decidable c] {u w : Ppu} (h : SameFlags u w) (line : Int) :
    SameFlags (doIf c (fun w => w.evaluateSprites line) u) (doIf c (fun w => w.evaluateSprites line) w) := by
  have covers := covers_congr h.oam h.ctrl line
  by_cases k : c
  · rw [doIf_pos k, doIf_pos k]
    refine ⟨h.vblank, h.zeroHit, ?_, ?_, ?_, h.oam, h.ctrl⟩
    · show (w.overflow || _) = (u.overflow || _)
      rw [h.overflow, covers]
    · show min ((List.range 64).filter (w.covers line)).length 8 = _
      rw [covers]
      rfl
    · show w.covers line 0 = u.covers line 0
      rw [covers]
  · rw [doIf_neg k, doIf_neg k]
    exact h

/-- The flags after a dot of a line that is not the clearing one: evaluation gives them at dot 257 (R380, R401). -/
theorem Ppu.lineDot_flags (u : Ppu) (rd : BitVec 14 → Byte) (line : Int) (d : Nat) (render : Bool)
    (notClear : ¬(line = -1 ∧ d = 1)) :
    SameFlags (doIf (d = 257 ∧ 0 ≤ line) (fun w => w.evaluateSprites line) u) (u.lineDot rd line d render) := by
  rw [u.lineDot_eq, doIf_neg notClear]
  refine .afterDoIf (.evaluate ?_ line) fun _ v => by constructor <;> rfl
  refine .afterDoIf ?_ fun _ v => by constructor <;> rfl
  refine .afterDoIf ?_ fun _ v => by constructor <;> rfl
  refine .afterDoIf ?_ fun _ v => .afterDoIf (show SameFlags v v.loadShifters by constructor <;> rfl) fun _ v => by
    constructor <;> rfl
  refine .afterDoIf ?_ fun _ v => by constructor <;> rfl
  exact .afterDoIf (.refl u) fun h v => v.fetchDot_flags rd render (by omega)

/-- `v` after a dot of a line (R371 to R374). -/
theorem Ppu.lineDot_v (u : Ppu) (rd : BitVec 14 → Byte) (line : Int) (d : Nat) (render : Bool) :
    (u.lineDot rd line d render).v =
      if render = false then u.v
      else if d = 256 then incY (incX u.v)
      else if d = 257 then transferX u.v u.t
      else if ((2 ≤ d ∧ d ≤ 257) ∨ (321 ≤ d ∧ d ≤ 337)) ∧ d % 8 = 0 then incX u.v
      else if line = -1 ∧ 280 ≤ d ∧ d ≤ 304 then transferY u.v u.t
      else u.v := by
  have fetch (h : 2 ≤ d) : ((u.shift d).tileDot rd d render).v = if render = true ∧ d % 8 = 0 then incX u.v else u.v := by
    rw [tileDot_v _ _ _ h, shift_v]
  have t : ((u.shift d).tileDot rd d render).t = u.t := ((u.shift_frame d).trans (Ppu.tileDot_frame _ rd d render)).t
  have sprites (c : Prop) [Decidable c] (w : Ppu) : (doIf c (fun w => w.fetchSprites rd line) w).v = w.v :=
    doIf_part Ppu.v (fun _ => by rfl) w
  have evaluate (c : Prop) [Decidable c] (w : Ppu) : (doIf c (fun w => w.evaluateSprites line) w).v = w.v :=
    doIf_part Ppu.v (fun _ => by rfl) w
  rcases u.lineDot_cases rd line d render with ⟨rfl, rfl, e⟩ | ⟨k, e⟩ | ⟨rfl, e⟩ | ⟨rfl, e⟩ | ⟨rfl, e⟩ | ⟨rfl, e⟩ |
    ⟨rfl, k, l, e⟩ | ⟨-, k, l, -, -, m, e⟩
  all_goals rw [e]; clear e
  case inl => cases render <;> rfl
  case inr.inl =>
    have window : (2 ≤ d ∧ d ≤ 257) ∨ (321 ≤ d ∧ d ≤ 337) := by omega
    rw [fetch (by omega), if_neg (show d ≠ 256 by omega), if_neg (show d ≠ 257 by omega),
      if_neg (show ¬(line = -1 ∧ 280 ≤ d ∧ d ≤ 304) by omega)]
    cases render <;> simp only [window, true_and] <;> rfl
  case inr.inr.inl =>
    have := fetch (by decide)
    cases render
    · exact this
    · exact congrArg incY this
  case inr.inr.inr.inl =>
    have := fetch (by decide)
    rw [evaluate]
    cases render
    · exact this
    · exact congrArg₂ transferX this t
  case inr.inr.inr.inr.inl => cases render <;> simp [Ppu.fetchNT]
  case inr.inr.inr.inr.inr.inl => cases render <;> simp [sprites, Ppu.fetchNT]
  case inr.inr.inr.inr.inr.inr.inl =>
    rw [if_neg (show d ≠ 256 by omega), if_neg (show d ≠ 257 by omega),
      if_neg (show ¬(((2 ≤ d ∧ d ≤ 257) ∨ (321 ≤ d ∧ d ≤ 337)) ∧ d % 8 = 0) by omega), 
      if_pos (show (-1 : Int) = -1 ∧ 280 ≤ d ∧ d ≤ 304 from ⟨rfl, k, l⟩)]
    cases render <;> rfl
  case inr.inr.inr.inr.inr.inr.inr =>
    rw [if_neg (show d ≠ 256 by omega), if_neg (show d ≠ 257 by omega),
      if_neg (show ¬(((2 ≤ d ∧ d ≤ 257) ∨ (321 ≤ d ∧ d ≤ 337)) ∧ d % 8 = 0) by omega), if_neg m, ite_self]

/-! ## The clock -/

/-- What the clock makes of the unit before the flags of the vertical blank and the pixel: R360's listing on scanlines -1
to 239, nothing on the others. -/
def Ppu.lineOrNot (u : Ppu) (rd : BitVec 14 → Byte) : Ppu :=
  if -1 ≤ u.scanline ∧ u.scanline ≤ 239 then u.lineDot rd u.scanline u.dot u.rendering else u

theorem Ppu.lineOrNot_on {u : Ppu} (h : OnLine u) (rd : BitVec 14 → Byte) :
    u.lineOrNot rd = u.lineDot rd u.scanline u.dot u.rendering := if_pos h

theorem Ppu.lineOrNot_off {u : Ppu} (h : ¬OnLine u) (rd : BitVec 14 → Byte) : u.lineOrNot rd = u := if_neg h

theorem Ppu.lineOrNot_clear {u : Ppu} (line : u.scanline = -1) (dot : u.dot = 1) (rd : BitVec 14 → Byte) :
    u.lineOrNot rd = u.preRenderClear := by
  rw [lineOrNot_on (by rw [OnLine, line]; decide), u.lineDot_eq, line, dot]
  rfl

theorem Ppu.lineOrNot_flags (u : Ppu) (rd : BitVec 14 → Byte) (notClear : ¬(u.scanline = -1 ∧ u.dot = 1)) :
    SameFlags (doIf (OnPicture u ∧ u.dot = 257) (fun w => w.evaluateSprites u.scanline) u) (u.lineOrNot rd) := by
  by_cases on : OnLine u
  · have same : (OnPicture u ∧ u.dot = 257) ↔ (u.dot = 257 ∧ 0 ≤ u.scanline) := by
      have := on.2
      constructor <;> rintro ⟨h, k⟩
      · exact ⟨k, h.1⟩
      · exact ⟨⟨k, on.2⟩, h⟩
    rw [lineOrNot_on on]
    simp only [same]
    exact u.lineDot_flags rd _ _ _ notClear
  · rw [lineOrNot_off on, doIf_neg (by omega)]
    exact .refl u

/-- Outside the visible dots a clock draws nothing. -/
theorem Ppu.clock_notVisible {u : Ppu} (h : ¬(OnPicture u ∧ 1 ≤ u.dot ∧ u.dot ≤ 256)) (rd : BitVec 14 → Byte)
    (leftClip : Bool) : u.clock rd leftClip
      = (doIf (u.scanline = 241 ∧ u.dot = 1) Ppu.startVblank (u.lineOrNot rd)).advance := by
  rw [u.clock_eq, Ppu.beforeAdvance]
  rw [if_neg (by rw [← and_assoc]; exact h)]
  rfl

/-- A visible dot composites on what the dot of the line has made (R360). -/
theorem Ppu.clock_visible {u : Ppu} (h : OnPicture u ∧ 1 ≤ u.dot ∧ u.dot ≤ 256) (rd : BitVec 14 → Byte)
    (leftClip : Bool) :
    u.clock rd leftClip = ((u.lineOrNot rd).composite rd leftClip u.scanline u.dot).advance := by
  obtain ⟨⟨lo, hi⟩, dots⟩ := h
  rw [u.clock_eq, Ppu.beforeAdvance]
  rw [if_neg (show ¬(u.scanline = 241 ∧ u.dot = 1) by omega), if_pos ⟨lo, hi, dots⟩]
  rfl

/-- `Advance()` moves the raster and sets the frame-complete flag at the wrap, and does nothing else (R362). -/
theorem Ppu.advance_eq (u : Ppu) : ∃ dot line, u.advance = { u with
    dot := dot, scanline := line,
    frameComplete := u.frameComplete || decide (u.scanline = 260 ∧ u.dot = 340) } := by
  unfold Ppu.advance
  by_cases row : u.dot + 1 = 341
  · by_cases wrap : u.scanline + 1 = 261
    · refine ⟨0, -1, ?_⟩
      rw [if_pos row, if_pos wrap, decide_eq_true (by omega), Bool.or_true]
    · refine ⟨0, u.scanline + 1, ?_⟩
      rw [if_pos row, if_neg wrap, decide_eq_false (by omega), Bool.or_false]
  · refine ⟨u.dot + 1, u.scanline, ?_⟩
    rw [if_neg row, decide_eq_false (by omega), Bool.or_false]

theorem Ppu.clock_vblank (u : Ppu) (rd : BitVec 14 → Byte) (leftClip : Bool) : (u.clock rd leftClip).vblank =
    if u.scanline = 241 ∧ u.dot = 1 then true else (u.lineOrNot rd).vblank := by
  by_cases visible : OnPicture u ∧ 1 ≤ u.dot ∧ u.dot ≤ 256
  · obtain ⟨dot, line, e⟩ := ((u.lineOrNot rd).composite rd leftClip u.scanline u.dot).advance_eq
    rw [clock_visible visible, e, if_neg (by omega)]
    rfl
  · obtain ⟨dot, line, e⟩ := (doIf (u.scanline = 241 ∧ u.dot = 1) Ppu.startVblank (u.lineOrNot rd)).advance_eq
    rw [clock_notVisible visible, e]
    unfold Ppu.doIf
    split <;> rfl

theorem Ppu.clock_zeroHit {u : Ppu} (h : ¬(OnPicture u ∧ 1 ≤ u.dot ∧ u.dot ≤ 256)) (rd : BitVec 14 → Byte)
    (leftClip : Bool) : (u.clock rd leftClip).zeroHit = (u.lineOrNot rd).zeroHit := by
  obtain ⟨dot, line, e⟩ := (doIf (u.scanline = 241 ∧ u.dot = 1) Ppu.startVblank (u.lineOrNot rd)).advance_eq
  rw [clock_notVisible h, e]
  exact doIf_part Ppu.zeroHit (fun _ => by rfl) (u.lineOrNot rd)

theorem Ppu.clock_frameComplete (u : Ppu) (rd : BitVec 14 → Byte) (leftClip : Bool) :
    (u.clock rd leftClip).frameComplete = (u.frameComplete || decide (u.scanline = 260 ∧ u.dot = 340)) := by
  obtain ⟨scanline, dot⟩ := u.beforeAdvance_position rd leftClip
  have flag : (u.beforeAdvance rd leftClip).frameComplete = u.frameComplete := by
    have h := (u.lineOrNot_frame rd).frameComplete
    unfold Ppu.beforeAdvance
    dsimp only
    split <;> split <;> exact h
  obtain ⟨_, _, e⟩ := (u.beforeAdvance rd leftClip).advance_eq
  rw [u.clock_eq, e, flag, scanline, dot]

/-- `v` after a clock, by the rules of R371 to R374. -/
theorem Ppu.clock_scroll (u : Ppu) (rd : BitVec 14 → Byte) (leftClip : Bool) : ScrollMoves u (u.clock rd leftClip) := by
  have v : (u.clock rd leftClip).v = (u.lineOrNot rd).v := (u.clock_pipelines rd leftClip).v
  unfold ScrollMoves
  dsimp only
  rw [v]
  by_cases on : OnLine u
  case neg =>
    rw [lineOrNot_off on]
    exact ⟨fun _ f => absurd f.1 on, fun _ h => absurd h on, fun _ h => absurd h on,
      fun _ line => absurd (by omega) on, fun _ => rfl⟩
  rw [lineOrNot_on on, u.lineDot_v]
  by_cases render : renders u
  case neg =>
    rw [if_pos (by rw [← Bool.not_eq_true, u.rendering_iff]; exact render)]
    exact ⟨fun h => absurd h render, fun h => absurd h render, fun h => absurd h render, fun h => absurd h render,
      fun _ => rfl⟩
  rw [if_neg (by rw [Bool.not_eq_false]; exact u.rendering_iff.mpr render)]
  refine ⟨?_, ?_, ?_, ?_, ?_⟩
  · rintro - ⟨-, window⟩ eighth turn
    rw [if_neg turn, if_neg (by omega), if_pos ⟨window, eighth⟩, scrollOf_incX]
  · rintro - - turn
    rw [if_pos turn, scrollOf_incY, scrollOf_incX]
  · rintro - - last
    rw [if_neg (by omega), if_pos last, scrollOf_transferX]
  · rintro - line lo hi
    rw [if_neg (by omega), if_neg (by omega), if_neg (by omega), if_pos ⟨line, lo, hi⟩, scrollOf_transferY]
  · intro idle
    have rest : ¬((Fetches u ∧ u.dot % 8 = 0) ∨ u.dot = 257 ∨ (u.scanline = -1 ∧ 280 ≤ u.dot ∧ u.dot ≤ 304)) :=
      fun h => idle ⟨render, on, h⟩
    rw [not_or, not_or] at rest
    obtain ⟨fetch, last, vertical⟩ := rest
    have eighth : ¬(((2 ≤ u.dot ∧ u.dot ≤ 257) ∨ (321 ≤ u.dot ∧ u.dot ≤ 337)) ∧ u.dot % 8 = 0) :=
      fun h => fetch ⟨⟨on, h.1⟩, h.2⟩
    rw [if_neg (by omega), if_neg last, if_neg eighth, if_neg vertical]

/-- Settles O50: a clock is a dot of R360's listing, then the vertical blank's flags, the pixel and the raster; each flag
is followed through the four. -/
theorem vblankFlagTiming : Obligations.VblankFlagTiming := by
  unfold Obligations.VblankFlagTiming
  refine ⟨fun s => rfl, fun u rd clip => ?_⟩
  have pipes : Ppu.SamePipelines (u.lineOrNot rd) (u.clock rd clip) := u.clock_pipelines rd clip
  have flags (notClear) := u.lineOrNot_flags rd notClear
  have regs := u.clock_frame rd clip
  refine ⟨?_, u.clock_nmi rd clip, ?_, ?_, ?_, ?_, u.clock_frameComplete rd clip, u.clock_scroll rd clip, regs.ctrl,
    regs.mask, regs.t, regs.fineX, regs.toggle, regs.dataBuf, regs.oamAddr, regs.oam, regs.nt, regs.pal⟩
  · rw [u.clock_vblank]
    congr 1
    by_cases clear : u.scanline = -1 ∧ u.dot = 1
    · rw [if_pos clear, Ppu.lineOrNot_clear clear.1 clear.2]
      rfl
    · rw [if_neg clear, (flags clear).vblank]
      exact Ppu.doIf_part Ppu.vblank (fun _ => by rfl) u
  · rintro ⟨line, dot⟩
    have e := Ppu.lineOrNot_clear line dot rd
    rw [Ppu.clock_zeroHit (by omega), pipes.overflow, pipes.spriteCount, pipes.zeroPossible, e]
    exact ⟨rfl, rfl, rfl, rfl⟩
  · intro evaluates
    have f := flags (by omega)
    rw [Ppu.doIf_pos evaluates] at f
    exact ⟨pipes.overflow.trans f.overflow, pipes.spriteCount.trans f.spriteCount,
      pipes.zeroPossible.trans f.zeroPossible⟩
  · intro clear evaluates
    have f := flags clear
    rw [Ppu.doIf_neg evaluates] at f
    exact ⟨pipes.overflow.trans f.overflow, pipes.spriteCount.trans f.spriteCount,
      pipes.zeroPossible.trans f.zeroPossible⟩
  · intro clear visible
    rw [Ppu.clock_zeroHit visible, (flags clear).zeroHit]
    exact Ppu.doIf_part Ppu.zeroHit (fun _ => by rfl) u

end Sys2Proof.Machine

/-! Proofs of the picture unit's family, the sprites: evaluation as the loop over the 64 entries, the fetch of a slot's
pattern bytes, and what a dot makes of a slot. -/

namespace Sys2Proof.Machine

open Sys2Proof.Stated

/-! ## Evaluation as the loop -/

/-- The entries below `m` that qualify on the line, in object-memory order (R380). -/
def Ppu.qualifying (u : Ppu) (line : Int) (m : Nat) : List Nat := (List.range m).filter (u.covers line)

theorem Ppu.qualifying_succ (u : Ppu) (line : Int) (m : Nat) :
    u.qualifying line (m + 1) = u.qualifying line m ++ if u.covers line m then [m] else [] := by
  rw [qualifying, List.range_succ, List.filter_append, List.filter_cons, List.filter_nil]
  rfl

theorem Ppu.covers_iff (u : Ppu) (line : Int) (n : Nat) : u.covers line n = true ↔
    0 ≤ line - ((Mem.read u.oam (4 * n)).toNat : Int)
      ∧ line - ((Mem.read u.oam (4 * n)).toNat : Int) < if u.ctrl.getLsbD 5 then 16 else 8 := by
  rw [covers, spriteHeight, tallSprites, Bool.and_eq_true, decide_eq_true_iff, decide_eq_true_iff]

/-- One turn of the loop in the terms of the model's evaluation. -/
theorem evaluateEntry_eq (u : Ppu) (line : Int) (slots : List Slot) (zero : Bool) (found n : Nat) :
    evaluateEntry u line (slots, zero, found) n =
      if u.covers line n then
        if slots.length < 8 then (slots ++ [u.slotOf n], zero || n == 0, found + 1) else (slots, zero, found + 1)
      else (slots, zero, found) := by
  simp only [u.covers_iff]
  rfl

/-- What the loop holds after `m` entries: the first eight that qualify, whether entry 0 does, and how many do. -/
theorem foldl_evaluateEntry (u : Ppu) (line : Int) (m : Nat) :
    (List.range m).foldl (evaluateEntry u line) ([], false, 0) =
      (((u.qualifying line m).take 8).map u.slotOf, decide (0 < m) && u.covers line 0, (u.qualifying line m).length) := by
  induction m with
  | zero => rfl
  | succ m ih =>
    rw [List.range_succ, List.foldl_append, ih, List.foldl_cons, List.foldl_nil, evaluateEntry_eq, u.qualifying_succ]
    have zero : (decide (0 < m + 1) && u.covers line 0) = ((decide (0 < m) && u.covers line 0) || (m == 0 && u.covers line m)) := by
      cases m <;> simp
    rw [zero]
    by_cases hit : u.covers line m = true
    · rw [if_pos hit, if_pos hit, List.length_map, List.length_take]
      by_cases room : (u.qualifying line m).length < 8
      · have all : (u.qualifying line m).take 8 = u.qualifying line m := List.take_of_length_le (by omega)
        rw [if_pos (by omega), List.take_of_length_le (l := _ ++ [m]) (by rw [List.length_append]; exact room), all,
          List.map_append, List.length_append, hit, Bool.and_true]
        rfl
      · have late : (m == 0) = false := by
          rw [beq_eq_false_iff_ne]
          rintro rfl
          exact room (show 0 < 8 by decide)
        rw [if_neg (by omega), List.take_append_of_le_length (by omega), List.length_append, late, Bool.false_and,
          Bool.or_false]
        rfl
    · rw [if_neg hit, if_neg hit, List.append_nil, Bool.not_eq_true _ |>.mp hit, Bool.and_false, Bool.or_false]

/-- Eight more than eight is one too many: evaluation gives what the loop gives (R380). -/
theorem Ppu.evaluateSprites_eq_loop (u : Ppu) (line : Int) :
    let r := (List.range 64).foldl (evaluateEntry u line) ([], false, 0)
    let e := u.evaluateSprites line
    e.spriteCount = r.1.length ∧ e.spriteCount ≤ 8 ∧ e.zeroPossible = r.2.1
    ∧ e.overflow = (u.overflow || decide (8 < r.2.2))
    ∧ ∀ k (h : k < 8), e.slots[k] = r.1.getD k { y := 0xFF, id := 0xFF, attr := 0xFF, x := 0xFF, lo := 0, hi := 0 } := by
  rw [foldl_evaluateEntry]
  refine ⟨?_, Nat.min_le_right _ _, rfl, rfl, fun k h => ?_⟩
  · rw [List.length_map, List.length_take, Nat.min_comm]
    rfl
  · have slot : (u.evaluateSprites line).slots[k] =
        ((u.qualifying line 64)[k]?.map u.slotOf).getD Slot.empty := by
      rw [evaluateSprites, Vector.getElem_ofFn, qualifying]
      split
      next n hit => rw [show _ = some n from hit]; rfl
      next none => rw [show _ = Option.none from none]; rfl
    rw [slot, List.getD_eq_getElem?_getD, List.getElem?_map, List.getElem?_take_of_lt h]
    rfl

/-! ## The two pattern bytes of a sprite's row -/

/-- Bits put below a number's zero bits are added to it. -/
theorem toNat_or_of_dvd {w k : Nat} {x y : BitVec w} (hx : 2 ^ k ∣ x.toNat) (hy : y.toNat < 2 ^ k) :
    (x ||| y).toNat = x.toNat + y.toNat := by
  obtain ⟨q, hq⟩ := hx
  rw [BitVec.toNat_or, hq, ← Nat.two_pow_add_eq_or_of_lt hy]

theorem toNat_bitAt_of_lt {w k : Nat} (b : Bool) (h : k < w) : (bitAt w b k).toNat = 2 ^ k * b.toNat := by
  cases b with
  | false => simp [bitAt]
  | true => simpa [bitAt, Nat.shiftLeft_eq] using Nat.mod_eq_of_lt (Nat.pow_lt_pow_right Nat.one_lt_two h)

/-- A pattern address of table, tile and line of the tile (R370, R381). -/
theorem patternAddress_eq (table : Bool) {tile line : BitVec 14} (ht : tile.toNat < 256) (hl : line.toNat < 16) :
    bitAt 14 table 12 ||| tile <<< 4 ||| line = BitVec.ofNat 14 (4096 * table.toNat + 16 * tile.toNat + line.toNat) := by
  have shifted : (tile <<< 4).toNat = 16 * tile.toNat := by
    rw [BitVec.toNat_shiftLeft, Nat.shiftLeft_eq]
    omega
  have upper : (bitAt 14 table 12 ||| tile <<< 4).toNat = 4096 * table.toNat + 16 * tile.toNat := by
    rw [toNat_or_of_dvd (k := 12) (by rw [toNat_bitAt_of_lt _ (by decide)]; exact Nat.dvd_mul_right _ _) (by omega),
      toNat_bitAt_of_lt _ (by decide), shifted]
    rfl
  have := Bool.toNat_lt table
  apply BitVec.eq_of_toNat_eq
  rw [toNat_or_of_dvd (k := 4) (by omega) (by omega), upper, BitVec.toNat_ofNat]
  omega

/-- The address of a sprite's row that lies in the sprite (R381). -/
theorem Ppu.spriteAddr_eq (u : Ppu) (sl : Slot) (line : Int) {row : Nat} (h : line - (sl.y.toNat : Int) = row)
    (inside : row < if u.ctrl.getLsbD 5 then 16 else 8) :
    let id := sl.id.toNat
    let flip := sl.attr.getLsbD 7 = true
    let r := if flip then 7 - row % 8 else row % 8
    let half := if flip then 1 - row / 8 else row / 8
    u.spriteAddr sl line = BitVec.ofNat 14 (if u.ctrl.getLsbD 5 = true then 4096 * (id % 2) + 16 * (id / 2 * 2 + half) + r
      else 4096 * (u.ctrl.getLsbD 3).toNat + 16 * id + r) := by
  intro id flip r half
  have hid := sl.id.isLt
  have r_lt : r < 8 := by
    simp only [r]
    split <;> omega
  have rowBits : BitVec.ofInt 14 (line - (sl.y.toNat : Int)) = BitVec.ofNat 14 row := by rw [h, BitVec.ofInt_natCast]
  unfold Ppu.spriteAddr
  dsimp only
  rw [rowBits, tallSprites]
  have hr : (BitVec.ofNat 14 row).toNat = row := by
    rw [BitVec.toNat_ofNat, Nat.mod_eq_of_lt]
    split at inside <;> omega
  generalize BitVec.ofNat 14 row = b at hr ⊢
  by_cases tall : u.ctrl.getLsbD 5 = true
  · rw [if_pos tall] at inside
    rw [if_pos tall, if_pos tall]
    have low : (b &&& 7).toNat = row % 8 := by
      rw [BitVec.toNat_and, hr]
      exact Nat.and_two_pow_sub_one_eq_mod row 3
    have high : (b >>> 3).toNat = row / 8 := by rw [BitVec.toNat_ushiftRight, hr, Nat.shiftRight_eq_div_pow]
    have below : (7 - (b &&& 7)).toNat = 7 - row % 8 := by bv_omega
    have other : (1 - b >>> 3).toNat = 1 - row / 8 := by
      rw [BitVec.toNat_sub, high]
      show (2 ^ 14 - row / 8 + 1) % 2 ^ 14 = _
      omega
    have line : (if sl.attr.getLsbD 7 = true then 7 - (b &&& 7) else b &&& 7).toNat = r := by
      rw [apply_ite BitVec.toNat, below, low]
    have upper : (if sl.attr.getLsbD 7 = true then 1 - b >>> 3 else b >>> 3).toNat = half := by
      rw [apply_ite BitVec.toNat, other, high]
    have half_le : half ≤ 1 := by
      simp only [half]
      split <;> omega
    have tile : ((sl.id &&& 0xFE).setWidth 14 + if sl.attr.getLsbD 7 = true then 1 - b >>> 3 else b >>> 3).toNat
        = id / 2 * 2 + half := by
      rw [BitVec.toNat_add, upper, BitVec.toNat_setWidth, toNat_and_FE]
      omega
    rw [patternAddress_eq _ (by omega) (by omega), line, tile, bit0_eq_mod]
  · rw [if_neg tall] at inside
    rw [if_neg tall, if_neg tall]
    have low : b.toNat = row % 8 := by omega
    have below : (7 - b).toNat = 7 - row % 8 := by bv_omega
    have line : (if sl.attr.getLsbD 7 = true then 7 - b else b).toNat = r := by
      rw [apply_ite BitVec.toNat, below, low]
    have tile : (sl.id.setWidth 14).toNat = id := BitVec.toNat_setWidth_of_le (by decide)
    rw [patternAddress_eq _ (by omega) (by omega), line, tile]
    rfl

theorem getLsbD_rev8 (b : Byte) {k : Nat} (h : k < 8) : (rev8 b).getLsbD k = b.getLsbD (7 - k) := by
  rw [rev8, BitVec.getLsbD_reverse, BitVec.getMsbD_eq_getLsbD, decide_eq_true h, Bool.true_and]

/-- `FetchSprites()` on a slot whose row lies in the sprite. -/
theorem Ppu.fetchSprite_fetched (u : Ppu) (rd : BitVec 14 → Byte) (sl : Slot)
    (top : 0 ≤ u.scanline - (sl.y.toNat : Int))
    (inside : u.scanline - (sl.y.toNat : Int) < if u.ctrl.getLsbD 5 then 16 else 8) :
    SpriteFetched u rd sl (u.fetchSprite rd u.scanline sl) := by
  have row := (Int.toNat_of_nonneg top).symm
  have below : (u.scanline - (sl.y.toNat : Int)).toNat < if u.ctrl.getLsbD 5 then 16 else 8 := by
    by_cases tall : u.ctrl.getLsbD 5 = true
    · rw [if_pos tall] at inside ⊢
      omega
    · rw [if_neg tall] at inside ⊢
      omega
  have addr := u.spriteAddr_eq sl u.scanline row below
  unfold SpriteFetched Ppu.fetchSprite
  dsimp only at addr ⊢
  rw [addr]
  by_cases flip : sl.attr.getLsbD 6 = true
  · simp only [flip, if_true, BitVec.ofNat_add]
    exact ⟨fun k hk => getLsbD_rev8 _ hk, fun k hk => getLsbD_rev8 _ hk⟩
  · simp only [flip, BitVec.ofNat_add]
    exact ⟨fun _ _ => rfl, fun _ _ => rfl⟩

theorem Ppu.fetchSprite_planes (u : Ppu) (rd : BitVec 14 → Byte) (line : Int) (sl : Slot) :
    let f := u.fetchSprite rd line sl
    f = { sl with lo := f.lo, hi := f.hi } := by
  unfold Ppu.fetchSprite
  dsimp only
  split <;> rfl

/-! ## What a dot makes of the slots -/

theorem Ppu.evaluateSprites_slots_congr {u w : Ppu} (oam : w.oam = u.oam) (ctrl : w.ctrl = u.ctrl) (line : Int) :
    (w.evaluateSprites line).slots = (u.evaluateSprites line).slots := by
  have slot : w.slotOf = u.slotOf := by
    funext n
    rw [slotOf, slotOf, oam]
  rw [evaluateSprites, evaluateSprites, covers_congr oam ctrl, slot]

theorem Ppu.shift_slots (u : Ppu) (d : Nat) (i : Fin 8) : (u.shift d).slots[i] =
    if (u.mask.getLsbD 4 = true ∧ d ≤ 257) ∧ i.val < u.spriteCount then u.slots[i].shift else u.slots[i] := by
  have slots : (u.shift d).slots = if u.renderSpr = true ∧ d ≤ 257 then
      u.slots.mapIdx fun i sl => if i < u.spriteCount then sl.shift else sl else u.slots := by
    unfold Ppu.shift
    cases u.renderBg <;> exact apply_ite Ppu.slots _ _ _
  rw [slots]
  by_cases sprites : u.renderSpr = true ∧ d ≤ 257
  · rw [if_pos sprites, Fin.getElem_fin, Vector.getElem_mapIdx]
    simp only [show u.mask.getLsbD 4 = true ∧ d ≤ 257 from sprites, true_and]
    rfl
  · rw [if_neg sprites, if_neg (fun h => sprites h.1)]

theorem Ppu.shift_slots_late (u : Ppu) {d : Nat} (h : 257 < d) : (u.shift d).slots = u.slots := by
  unfold Ppu.shift
  dsimp only
  rw [if_neg (by omega)]
  split <;> rfl

/-- The slots after a dot of a line: cleared, shifted, evaluated, fetched, or as they were (R360). -/
theorem Ppu.lineDot_slots (u : Ppu) (rd : BitVec 14 → Byte) (line : Int) (d : Nat) (render : Bool) :
    let w := u.lineDot rd line d render
    (line = -1 ∧ d = 1 ∧ w.slots = u.preRenderClear.slots)
      ∨ (2 ≤ d ∧ (d ≤ 256 ∨ (d = 257 ∧ ¬0 ≤ line)) ∧ w.slots = (u.shift d).slots)
      ∨ (d = 257 ∧ 0 ≤ line ∧ w.slots = (u.evaluateSprites line).slots)
      ∨ (d = 340 ∧ 0 ≤ line ∧ w.slots = (u.fetchSprites rd line).slots)
      ∨ (¬(line = -1 ∧ d = 1) ∧ ¬(2 ≤ d ∧ d ≤ 257) ∧ ¬(d = 340 ∧ 0 ≤ line) ∧ w.slots = u.slots) := by
  intro w
  have fetch (h : 2 ≤ d) := (u.shift d).tileDot_slots rd render h
  have frame := (u.shift_frame d).trans (Ppu.tileDot_frame _ rd d render)
  rcases u.lineDot_cases rd line d render with ⟨rfl, rfl, e⟩ | ⟨k, e⟩ | ⟨rfl, e⟩ | ⟨rfl, e⟩ | ⟨rfl, e⟩ | ⟨rfl, e⟩ |
    ⟨rfl, k, l, e⟩ | ⟨clear, k, l, -, m, -, e⟩
  all_goals rw [show w = _ from e]; clear e w
  case inl => exact .inl ⟨rfl, rfl, rfl⟩
  case inr.inl =>
    rw [fetch (by omega)]
    by_cases late : d ≤ 255
    · exact .inr (.inl ⟨by omega, by omega, rfl⟩)
    · exact .inr (.inr (.inr (.inr ⟨by omega, by omega, by omega, u.shift_slots_late (by omega)⟩)))
  case inr.inr.inl =>
    rw [doIf_part Ppu.slots (fun _ => by rfl), fetch (by omega)]
    exact .inr (.inl ⟨by omega, by omega, rfl⟩)
  case inr.inr.inr.inl =>
    by_cases picture : 0 ≤ line
    · rw [doIf_pos picture, evaluateSprites_slots_congr ?_ ?_ line]
      · exact .inr (.inr (.inl ⟨rfl, picture, rfl⟩))
      · exact (doIf_part Ppu.oam (fun _ => by rfl) _).trans frame.oam
      · exact (doIf_part Ppu.ctrl (fun _ => by rfl) _).trans frame.ctrl
    · rw [doIf_neg picture, doIf_part Ppu.slots (fun _ => by rfl)]
      exact .inr (.inl ⟨by omega, by omega, fetch (by omega)⟩)
  case inr.inr.inr.inr.inl => exact .inr (.inr (.inr (.inr ⟨by omega, by omega, by omega, rfl⟩)))
  case inr.inr.inr.inr.inr.inl =>
    by_cases picture : 0 ≤ line
    · rw [doIf_pos picture]
      exact .inr (.inr (.inr (.inl ⟨rfl, picture, rfl⟩)))
    · rw [doIf_neg picture]
      exact .inr (.inr (.inr (.inr ⟨by omega, by omega, by omega, rfl⟩)))
  case inr.inr.inr.inr.inr.inr.inl =>
    rw [doIf_part Ppu.slots (fun _ => by rfl)]
    exact .inr (.inr (.inr (.inr ⟨by omega, by omega, by omega, rfl⟩)))
  case inr.inr.inr.inr.inr.inr.inr => exact .inr (.inr (.inr (.inr ⟨clear, k, by omega, rfl⟩)))

/-- A slot that counts down, and one that stands at its column (R382). -/
theorem Slot.shift_of_pos {sl : Slot} (h : 0 < sl.x.toNat) :
    sl.shift = { sl with x := BitVec.ofNat 8 (sl.x.toNat - 1) } := by
  have x : sl.x - 1 = BitVec.ofNat 8 (sl.x.toNat - 1) := by bv_omega
  rw [Slot.shift, if_pos (by bv_omega), x]

theorem Slot.shift_of_zero {sl : Slot} (h : sl.x.toNat = 0) : sl.shift =
    { sl with lo := BitVec.ofNat 8 (2 * sl.lo.toNat), hi := BitVec.ofNat 8 (2 * sl.hi.toNat) } := by
  have double (b : Byte) : b <<< 1 = BitVec.ofNat 8 (2 * b.toNat) := by
    apply BitVec.eq_of_toNat_eq
    rw [BitVec.toNat_shiftLeft, BitVec.toNat_ofNat, Nat.shiftLeft_eq, Nat.mul_comm, pow_one]
  rw [Slot.shift, if_neg (by bv_omega), double, double]

theorem Ppu.clock_slots (u : Ppu) (rd : BitVec 14 → Byte) (leftClip : Bool) :
    SpritesMove u rd (u.clock rd leftClip) := by
  have slots : (u.clock rd leftClip).slots = (u.lineOrNot rd).slots := (u.clock_pipelines rd leftClip).slots
  intro i
  rw [slots]
  by_cases on : OnLine u
  case neg =>
    rw [lineOrNot_off on]
    refine ⟨fun _ => ?_, fun h => ?_, fun h => ?_, fun h => ?_, fun h => ?_, fun h => ?_, fun _ _ _ _ => rfl⟩
    all_goals omega
  rw [lineOrNot_on on]
  rcases u.lineDot_slots rd u.scanline u.dot u.rendering with ⟨line, dot, e⟩ | ⟨lo, hi, e⟩ | ⟨dot, picture, e⟩ |
    ⟨dot, picture, e⟩ | ⟨clear, fetch, late, e⟩
  all_goals rw [e]
  case inl =>
    refine ⟨fun _ _ => ?_, fun h => ?_, fun h => ?_, fun h => ?_, fun h => ?_, fun h => ?_, fun h => ?_⟩
    · simp [preRenderClear]
    all_goals omega
  case inr.inl =>
    rw [shift_slots]
    refine ⟨fun _ => ?_, fun ⟨_, _, _, spr, sel⟩ x => ?_, fun ⟨_, _, _, spr, sel⟩ x => ?_, fun h => ?_, fun h => ?_,
      fun h => ?_, fun _ shifts _ _ => ?_⟩
    case refine_2 => rw [if_pos ⟨⟨spr, by omega⟩, sel⟩, Slot.shift_of_pos x]
    case refine_3 => rw [if_pos ⟨⟨spr, by omega⟩, sel⟩, Slot.shift_of_zero x]
    case refine_7 => exact if_neg fun ⟨⟨spr, _⟩, sel⟩ => shifts ⟨on, lo, by omega, spr, sel⟩
    all_goals omega
  case inr.inr.inl =>
    refine ⟨fun _ => ?_, fun h => ?_, fun h => ?_, fun _ => rfl, fun h => ?_, fun h => ?_,
      fun _ _ h => absurd ⟨⟨picture, on.2⟩, dot⟩ h⟩
    all_goals omega
  case inr.inr.inr.inl =>
    have fetched : (u.fetchSprites rd u.scanline).slots[i] =
        if i.val < u.spriteCount then u.fetchSprite rd u.scanline u.slots[i] else u.slots[i] :=
      Vector.getElem_mapIdx ..
    rw [fetched]
    refine ⟨fun _ => ?_, fun h => ?_, fun h => ?_, fun h => ?_, fun ⟨_, _, sel⟩ => ?_, fun ⟨_, _, sel⟩ top inside => ?_,
      fun _ _ _ h => if_neg fun sel => h ⟨⟨picture, on.2⟩, dot, sel⟩⟩
    case refine_5 => rw [if_pos sel]; exact u.fetchSprite_planes rd _ _
    case refine_6 => rw [if_pos sel]; exact u.fetchSprite_fetched rd _ top inside
    all_goals omega
  case inr.inr.inr.inr =>
    refine ⟨fun _ => ?_, fun h => ?_, fun h => ?_, fun h => ?_, fun h => ?_, fun h => ?_, fun _ _ _ _ => rfl⟩
    all_goals omega

/-- Settles O51: evaluation is the loop, and a clock's slots are those of the dot of the line. -/
theorem spriteEvaluationIsTheLoop : Obligations.SpriteEvaluationIsTheLoop :=
  ⟨Ppu.clock_slots, Ppu.evaluateSprites_eq_loop⟩

end Sys2Proof.Machine

/-! Proofs of the picture unit's family, the background pipeline and the pixel. -/

namespace Sys2Proof.Machine

open Sys2Proof.Stated

/-! ## What is staged, and the background's shift registers -/

/-- The bytes staged for the next tile. -/
def Ppu.staging (u : Ppu) : Byte × BitVec 2 × Byte × Byte := (u.ntByte, u.atBits, u.ptLo, u.ptHi)

/-- What the four fetches of a tile would stage. -/
def Ppu.fetched (u : Ppu) (rd : BitVec 14 → Byte) : Byte × BitVec 2 × Byte × Byte :=
  ((u.fetchNT rd).ntByte, (u.fetchAT rd).atBits, (u.fetchPatternLo rd).ptLo, (u.fetchPatternHi rd).ptHi)

/-- The four background shift registers, low and high pattern plane, low and high attribute plane. -/
def Ppu.shifters (u : Ppu) : Fin 4 → BitVec 16 := ![u.bgLo, u.bgHi, u.bgAtLo, u.bgAtHi]

/-- The staged tile as `LoadShifters()` puts it in the low bytes of the four (R366). -/
def Ppu.tileBytes (u : Ppu) : Fin 4 → Byte :=
  ![u.ptLo, u.ptHi, if u.atBits.getLsbD 0 then 0xFF else 0, if u.atBits.getLsbD 1 then 0xFF else 0]

theorem Ppu.loadShifters_shifters (u : Ppu) (k : Fin 4) :
    u.loadShifters.shifters k = setField (u.shifters k) 0 (u.tileBytes k) := by
  fin_cases k <;> rfl

theorem setField_setField {w n : Nat} (x : BitVec w) {lo : Nat} (v : BitVec n) (fits : lo + n ≤ w) :
    setField (setField x lo v) lo v = setField x lo v := by
  apply BitVec.eq_of_getLsbD_eq
  intro i hi
  rw [getLsbD_setField _ _ fits, getLsbD_setField _ _ fits]
  split <;> rfl

/-- Loading the same tile twice is loading it once. -/
theorem Ppu.loadShifters_twice (u : Ppu) (rd : BitVec 14 → Byte) :
    (u.loadShifters.fetchNT rd).loadShifters.shifters = u.loadShifters.shifters := by
  funext k
  rw [loadShifters_shifters, u.loadShifters_shifters]
  exact (congrArg (fun x => setField x 0 (u.tileBytes k)) (u.loadShifters_shifters k)).trans
    (setField_setField _ _ (by decide))

/-- `Shift()` on the background (R367). -/
theorem Ppu.shift_shifters (u : Ppu) (d : Nat) (k : Fin 4) : ((u.shift d).shifters k).toNat =
    if u.mask.getLsbD 3 = true then 2 * (u.shifters k).toNat % 65536 else (u.shifters k).toNat := by
  have shifters : (u.shift d).shifters = if u.renderBg = true then fun k => u.shifters k <<< 1 else u.shifters := by
    unfold Ppu.shift
    dsimp only
    by_cases background : u.renderBg = true
    · rw [if_pos background, if_pos background]
      split <;> funext k <;> fin_cases k <;> rfl
    · rw [if_neg background, if_neg background]
      split <;> rfl
  rw [shifters]
  show _ = if u.renderBg = true then _ else _
  split
  · rw [BitVec.toNat_shiftLeft, Nat.shiftLeft_eq, Nat.mul_comm]
  · rfl

/-- `Shift()` leaves alone what is staged. -/
theorem Ppu.shift_staging (u : Ppu) (d : Nat) : (u.shift d).staging = u.staging := by
  unfold Ppu.shift
  dsimp only
  split <;> split <;> rfl

theorem Ppu.shift_fetched (u : Ppu) (rd : BitVec 14 → Byte) (d : Nat) : (u.shift d).fetched rd = u.fetched rd := by
  unfold Ppu.shift
  dsimp only
  split <;> split <;> rfl

theorem Ppu.shift_tileBytes (u : Ppu) (d : Nat) : (u.shift d).tileBytes = u.tileBytes := by
  unfold Ppu.shift
  dsimp only
  split <;> split <;> rfl

/-- The shift registers are loaded in the first dot of the sequence alone (R366). -/
theorem Ppu.tileDot_shifters (u : Ppu) (rd : BitVec 14 → Byte) {d : Nat} (render : Bool) (h : 2 ≤ d) :
    (u.tileDot rd d render).shifters = if d % 8 = 1 then u.loadShifters.shifters else u.shifters := by
  rcases u.tileDot_cases rd h render with ⟨k, e⟩ | ⟨k, e⟩ | ⟨k, e⟩ | ⟨k, e⟩ | ⟨k, e⟩ | ⟨k | k | k, e⟩ <;>
    rw [e] <;> simp only [k] <;> rfl

/-- Each of the four fetches stages its byte in its dot alone (R368 to R370). -/
theorem Ppu.tileDot_staging (u : Ppu) (rd : BitVec 14 → Byte) {d : Nat} (render : Bool) (h : 2 ≤ d) :
    (u.tileDot rd d render).staging =
      let (nt, bits, lo, hi) := u.staging
      let (nt', bits', lo', hi') := u.fetched rd
      (if d % 8 = 1 then nt' else nt, if d % 8 = 3 then bits' else bits, if d % 8 = 5 then lo' else lo,
        if d % 8 = 7 then hi' else hi) := by
  rcases u.tileDot_cases rd h render with ⟨k, e⟩ | ⟨k, e⟩ | ⟨k, e⟩ | ⟨k, e⟩ | ⟨k, e⟩ | ⟨k | k | k, e⟩ <;>
    rw [e] <;> simp only [k] <;> rfl

/-- The fetch sequence loads the shift registers it has shifted; no other dot touches them. -/
theorem Ppu.lineDot_shifters (u : Ppu) (rd : BitVec 14 → Byte) (line : Int) (d : Nat) (render : Bool) :
    (u.lineDot rd line d render).shifters =
      if (2 ≤ d ∧ d ≤ 257) ∨ (321 ≤ d ∧ d ≤ 337) then
        if d % 8 = 1 then (u.shift d).loadShifters.shifters else (u.shift d).shifters
      else u.shifters := by
  have fetch (h : 2 ≤ d) := (u.shift d).tileDot_shifters rd render h
  rcases u.lineDot_cases rd line d render with ⟨rfl, rfl, e⟩ | ⟨k, e⟩ | ⟨rfl, e⟩ | ⟨rfl, e⟩ | ⟨rfl, e⟩ | ⟨rfl, e⟩ |
    ⟨rfl, k, l, e⟩ | ⟨clear, k, l, m, n, -, e⟩
  all_goals rw [e]; clear e
  case inl => rfl
  case inr.inl => rw [if_pos (by omega), fetch (by omega)]
  case inr.inr.inl => exact (doIf_part shifters (fun _ => by rfl) _).trans (fetch (by omega))
  case inr.inr.inr.inl =>
    rw [doIf_part shifters (fun _ => by rfl), doIf_part shifters (fun _ => by rfl)]
    exact (u.shift 257).loadShifters_twice rd
  case inr.inr.inr.inr.inl => rfl
  case inr.inr.inr.inr.inr.inl => exact doIf_part shifters (fun _ => by rfl) _
  case inr.inr.inr.inr.inr.inr.inl =>
    rw [doIf_part shifters (fun _ => by rfl), if_neg (by omega)]
  case inr.inr.inr.inr.inr.inr.inr => rw [if_neg (by omega)]

/-- The fetch sequence and dots 338 and 340 stage; no other dot does. -/
theorem Ppu.lineDot_staging (u : Ppu) (rd : BitVec 14 → Byte) (line : Int) (d : Nat) (render : Bool) :
    (u.lineDot rd line d render).staging =
      if (2 ≤ d ∧ d ≤ 257) ∨ (321 ≤ d ∧ d ≤ 337) then ((u.shift d).tileDot rd d render).staging
      else if d = 338 ∨ d = 340 then (u.fetchNT rd).staging else u.staging := by
  rcases u.lineDot_cases rd line d render with ⟨rfl, rfl, e⟩ | ⟨k, e⟩ | ⟨rfl, e⟩ | ⟨rfl, e⟩ | ⟨rfl, e⟩ | ⟨rfl, e⟩ |
    ⟨rfl, k, l, e⟩ | ⟨clear, k, l, m, n, -, e⟩
  all_goals rw [e]; clear e
  case inl => rfl
  case inr.inl => rw [if_pos (by omega)]
  case inr.inr.inl => exact doIf_part staging (fun _ => by rfl) _
  case inr.inr.inr.inl =>
    rw [doIf_part staging (fun _ => by rfl), doIf_part staging (fun _ => by rfl)]
    rfl
  case inr.inr.inr.inr.inl => rfl
  case inr.inr.inr.inr.inr.inl => exact doIf_part staging (fun _ => by rfl) _
  case inr.inr.inr.inr.inr.inr.inl =>
    rw [doIf_part staging (fun _ => by rfl), if_neg (by omega), if_neg (by omega)]
  case inr.inr.inr.inr.inr.inr.inr => rw [if_neg (by omega), if_neg (by omega)]

/-! ## The bytes fetched, as numbers -/

/-- `FetchNT()` (R368). -/
theorem Ppu.fetchNT_ntByte (u : Ppu) (rd : BitVec 14 → Byte) :
    (u.fetchNT rd).ntByte = rd (BitVec.ofNat 14 (0x2000 + u.v.toNat % 4096)) := by
  have low : ((u.v.extractLsb' 0 12).setWidth 14 : BitVec 14).toNat = u.v.toNat % 4096 := by
    rw [BitVec.toNat_setWidth_of_le (by decide), extractLsb'_low, BitVec.toNat_ofNat, Nat.mod_mod]
    rfl
  have base : (0x2000 : BitVec 14).toNat = 0x2000 := rfl
  refine congrArg rd (BitVec.eq_of_toNat_eq ?_)
  rw [toNat_or_of_dvd (k := 12) (by decide) (by omega), low, base, BitVec.toNat_ofNat]
  exact (Nat.mod_eq_of_lt (by omega)).symm

theorem toNat_or_eq {w k a b : Nat} {x y : BitVec w} (hx : x.toNat = a) (hy : y.toNat = b) (above : 2 ^ k ∣ a)
    (below : b < 2 ^ k) : (x ||| y).toNat = a + b := by
  subst hx hy
  exact toNat_or_of_dvd above below

/-- The attribute address of `v` (R369). -/
theorem attributeAddr_eq (v : BitVec 15) : attributeAddr v = BitVec.ofNat 14 (0x23C0 + 2048 * (scrollOf v).tableY
    + 1024 * (scrollOf v).tableX + 8 * ((scrollOf v).coarseY / 4) + (scrollOf v).coarseX / 4) := by
  have ordered : attributeAddr v = 0x2000#14 ||| bitAt 14 (v.getLsbD 11) 11 ||| bitAt 14 (v.getLsbD 10) 10 ||| 0x3C0#14
      ||| ((coarseY v >>> 2).setWidth 14 <<< 3) ||| (coarseX v >>> 2).setWidth 14 := by
    have split : ((0x23C0 : Nat) : BitVec 14) = 0x2000#14 ||| 0x3C0#14 := rfl
    rw [attributeAddr, split]
    ac_rfl
  have ty := toNat_bitAt_of_lt (v.getLsbD 11) (show 11 < 14 by decide)
  have tx := toNat_bitAt_of_lt (v.getLsbD 10) (show 10 < 14 by decide)
  rw [tableY_eq] at ty
  rw [tableX_eq] at tx
  have cy : ((coarseY v >>> 2).setWidth 14 <<< 3 : BitVec 14).toNat = 8 * ((scrollOf v).coarseY / 4) := by
    rw [← toNat_coarseY, BitVec.toNat_shiftLeft, BitVec.toNat_setWidth_of_le (by decide), BitVec.toNat_ushiftRight,
      Nat.shiftRight_eq_div_pow, Nat.shiftLeft_eq]
    omega
  have cx : ((coarseX v >>> 2).setWidth 14 : BitVec 14).toNat = (scrollOf v).coarseX / 4 := by
    rw [← toNat_coarseX, BitVec.toNat_setWidth_of_le (by decide), BitVec.toNat_ushiftRight, Nat.shiftRight_eq_div_pow]
  have hty : (scrollOf v).tableY < 2 := Nat.mod_lt _ (by decide)
  have htx : (scrollOf v).tableX < 2 := Nat.mod_lt _ (by decide)
  have hcy : (scrollOf v).coarseY < 32 := Nat.mod_lt _ (by decide)
  have hcx : (scrollOf v).coarseX < 32 := Nat.mod_lt _ (by decide)
  have withTableY := toNat_or_eq (k := 12) (a := 0x2000) (x := 0x2000#14) rfl ty (by decide) (by omega)
  have withTableX := toNat_or_eq (k := 11) withTableY tx (by omega) (by omega)
  have withBase := toNat_or_eq (k := 10) (b := 0x3C0) (y := 0x3C0#14) withTableX rfl (by omega) (by decide)
  have withCoarseY := toNat_or_eq (k := 6) withBase cy (by omega) (by omega)
  have withCoarseX := toNat_or_eq (k := 3) withCoarseY cx (by omega) (by omega)
  apply BitVec.eq_of_toNat_eq
  rw [ordered, withCoarseX, BitVec.toNat_ofNat]
  omega

theorem toNat_shiftRight_if (c : Bool) (n : Nat) (b : Byte) :
    (if c = true then b >>> n else b).toNat = b.toNat / (2 ^ n) ^ c.toNat := by
  cases c with
  | false => exact (Nat.div_one _).symm
  | true => rw [if_pos rfl, BitVec.toNat_ushiftRight, Nat.shiftRight_eq_div_pow, Bool.toNat_true, pow_one]

/-- `FetchAT()` (R369). -/
theorem Ppu.fetchAT_atBits (u : Ppu) (rd : BitVec 14 → Byte) :
    let q := scrollOf u.v
    let byte := (rd (BitVec.ofNat 14 (0x23C0 + 2048 * q.tableY + 1024 * q.tableX + 8 * (q.coarseY / 4) + q.coarseX / 4))).toNat
    (u.fetchAT rd).atBits.toNat = byte / 16 ^ (q.coarseY / 2 % 2) / 4 ^ (q.coarseX / 2 % 2) % 4 := by
  intro q byte
  have y : ((coarseY u.v).getLsbD 1).toNat = q.coarseY / 2 % 2 := by rw [toNat_getLsbD, toNat_coarseY, pow_one]
  have x : ((coarseX u.v).getLsbD 1).toNat = q.coarseX / 2 % 2 := by rw [toNat_getLsbD, toNat_coarseX, pow_one]
  unfold Ppu.fetchAT
  dsimp only
  rw [attributeAddr_eq, ← y, ← x, extractLsb'_low, BitVec.toNat_ofNat, Nat.mod_mod, toNat_shiftRight_if,
    toNat_shiftRight_if]
  rfl

/-- The pattern address of the staged tile (R370). -/
theorem Ppu.patternAddr_eq (u : Ppu) : u.patternAddr =
    BitVec.ofNat 14 (4096 * (u.ctrl.getLsbD 4).toNat + 16 * u.ntByte.toNat + (scrollOf u.v).fineY) := by
  have table := toNat_bitAt_of_lt u.bgTable (show 12 < 14 by decide)
  have tile : (u.ntByte.setWidth 14 <<< 4 : BitVec 14).toNat = 16 * u.ntByte.toNat := by
    rw [BitVec.toNat_shiftLeft, BitVec.toNat_setWidth_of_le (by decide), Nat.shiftLeft_eq]
    omega
  have line : ((fineY u.v).setWidth 14 : BitVec 14).toNat = (scrollOf u.v).fineY := by
    rw [BitVec.toNat_setWidth_of_le (by decide), toNat_fineY]
  apply BitVec.eq_of_toNat_eq
  rw [patternAddr, BitVec.toNat_add, BitVec.toNat_add, table, tile, line, BitVec.toNat_ofNat, Nat.mod_add_mod]
  rfl

/-! ## The background registers after a clock -/

theorem Ppu.clock_shifters (u : Ppu) (rd : BitVec 14 → Byte) (leftClip : Bool) : (u.clock rd leftClip).shifters =
    if Fetches u then
      if u.dot % 8 = 1 then (u.shift u.dot).loadShifters.shifters else (u.shift u.dot).shifters
    else u.shifters := by
  have pipes : SamePipelines (u.lineOrNot rd) (u.clock rd leftClip) := u.clock_pipelines rd leftClip
  have same : (u.clock rd leftClip).shifters = (u.lineOrNot rd).shifters := by
    rw [shifters, shifters, pipes.bgLo, pipes.bgHi, pipes.bgAtLo, pipes.bgAtHi]
  rw [same]
  by_cases on : OnLine u
  case neg => rw [lineOrNot_off on, if_neg fun h => on h.1]
  rw [lineOrNot_on on, lineDot_shifters]
  by_cases fetch : Fetches u
  · rw [if_pos fetch, if_pos fetch.2]
  · rw [if_neg fetch, if_neg fun h => fetch ⟨on, h⟩]

theorem Ppu.clock_staging (u : Ppu) (rd : BitVec 14 → Byte) (leftClip : Bool) :
    let step := fun k : Nat => Fetches u ∧ u.dot % 8 = k
    (u.clock rd leftClip).staging =
      (if step 1 ∨ (OnLine u ∧ (u.dot = 338 ∨ u.dot = 340)) then (u.fetchNT rd).ntByte else u.ntByte,
        if step 3 then (u.fetchAT rd).atBits else u.atBits, if step 5 then (u.fetchPatternLo rd).ptLo else u.ptLo,
        if step 7 then (u.fetchPatternHi rd).ptHi else u.ptHi) := by
  intro step
  have pipes : SamePipelines (u.lineOrNot rd) (u.clock rd leftClip) := u.clock_pipelines rd leftClip
  have same : (u.clock rd leftClip).staging = (u.lineOrNot rd).staging := by
    rw [staging, staging, pipes.ntByte, pipes.atBits, pipes.ptLo, pipes.ptHi]
  rw [same]
  by_cases fetch : Fetches u
  · have late : (OnLine u ∧ (u.dot = 338 ∨ u.dot = 340)) ↔ False := iff_of_false (by omega) id
    have onStep (k : Nat) : step k ↔ u.dot % 8 = k := and_iff_right fetch
    rw [lineOrNot_on fetch.1, lineDot_staging, if_pos fetch.2, tileDot_staging _ _ _ (by omega), shift_fetched,
      shift_staging]
    simp only [onStep, late, or_false]
    rfl
  have never (k : Nat) : step k ↔ False := iff_of_false (fun h => fetch h.1) id
  simp only [never, false_or, if_false]
  by_cases on : OnLine u
  · rw [lineOrNot_on on, lineDot_staging, if_neg fun h => fetch ⟨on, h⟩]
    by_cases late : u.dot = 338 ∨ u.dot = 340
    · rw [if_pos late, if_pos ⟨on, late⟩]
      rfl
    · rw [if_neg late, if_neg fun h => late h.2]
      rfl
  · rw [lineOrNot_off on, if_neg fun h => on h.1]
    rfl

/-- The load and the shifts of one shift register, as a number. -/
theorem Ppu.clock_shifter (u : Ppu) (rd : BitVec 14 → Byte) (leftClip : Bool) (k : Fin 4) :
    let e := u.clock rd leftClip
    let shifted := if u.mask.getLsbD 3 = true then 2 * (u.shifters k).toNat % 65536 else (u.shifters k).toNat
    (Fetches u ∧ u.dot % 8 = 1 → (e.shifters k).toNat = shifted / 256 * 256 + (u.tileBytes k).toNat)
    ∧ (Fetches u → ¬(Fetches u ∧ u.dot % 8 = 1) → (e.shifters k).toNat = shifted)
    ∧ (¬Fetches u → e.shifters k = u.shifters k) := by
  intro e shifted
  have after := u.clock_shifters rd leftClip
  refine ⟨fun ⟨fetch, first⟩ => ?_, fun fetch first => ?_, fun fetch => ?_⟩
  · rw [after, if_pos fetch, if_pos first, loadShifters_shifters, toNat_setField _ _ (by decide), shift_shifters,
      shift_tileBytes]
    simp only [shifted]
    omega
  · rw [after, if_pos fetch, if_neg fun h => first ⟨fetch, h⟩, shift_shifters]
  · rw [after, if_neg fetch]

theorem Ppu.clock_background (u : Ppu) (rd : BitVec 14 → Byte) (leftClip : Bool) :
    BackgroundMoves u rd (u.clock rd leftClip) := by
  have fills (b : Bool) : (if b = true then 0xFF#8 else 0).toNat = 255 * b.toNat := by cases b <;> rfl
  have planes := u.clock_shifter rd leftClip
  have staged := u.clock_staging rd leftClip
  simp only [staging, Prod.mk.injEq] at staged
  obtain ⟨nt, bits, lo, hi⟩ := staged
  have atLo := planes 2
  have atHi := planes 3
  have lowBits : (u.tileBytes 2).toNat = _ := fills _
  have highBits : (u.tileBytes 3).toNat = _ := fills _
  rw [lowBits] at atLo
  rw [highBits] at atHi
  refine ⟨planes 0, planes 1, atLo, atHi, ⟨fun h => ?_, fun h => ?_⟩, ⟨fun h => ?_, fun h => ?_⟩, fun h => ?_, fun h => ?_,
    fun h => ?_, fun h => ?_⟩
  · rw [nt, if_pos h, fetchNT_ntByte]
  · rw [nt, if_neg h]
  · rw [bits, if_pos h, fetchAT_atBits]
  · rw [bits, if_neg h]
  · rw [lo, if_pos h, fetchPatternLo, patternAddr_eq]
  · rw [lo, if_neg h]
  · rw [hi, if_pos h, fetchPatternHi, patternAddr_eq]
    exact congrArg (fun a => (rd a).toNat) (BitVec.ofNat_add _ 8).symm
  · rw [hi, if_neg h]

/-! ## The pixel of a clock -/

/-- A clock composites on what the same dot has made of the registers. -/
theorem Ppu.clock_drawn {u : Ppu} (visible : OnPicture u ∧ 1 ≤ u.dot ∧ u.dot ≤ 256) (rd : BitVec 14 → Byte)
    (leftClip : Bool) :
    let e := u.clock rd leftClip
    let drawn := { e with frame := u.frame, zeroHit := u.zeroHit }.composite rd leftClip u.scanline u.dot
    e.frame = drawn.frame ∧ e.zeroHit = drawn.zeroHit := by
  intro e drawn
  have frame : (u.lineOrNot rd).frame = u.frame := (u.lineOrNot_frame rd).frame
  have zeroHit : (u.lineOrNot rd).zeroHit = u.zeroHit := by
    have flags := (u.lineOrNot_flags rd (by omega)).zeroHit
    rwa [doIf_neg (by omega)] at flags
  obtain ⟨_, _, after⟩ := ((u.lineOrNot rd).composite rd leftClip u.scanline u.dot).advance_eq
  simp only [drawn, e, clock_visible visible, after, ← frame, ← zeroHit]
  exact ⟨rfl, rfl⟩

theorem Ppu.clock_notDrawn {u : Ppu} (h : ¬(OnPicture u ∧ 1 ≤ u.dot ∧ u.dot ≤ 256)) (rd : BitVec 14 → Byte)
    (leftClip : Bool) : (u.clock rd leftClip).frame = u.frame := by
  obtain ⟨_, _, after⟩ := (doIf (u.scanline = 241 ∧ u.dot = 1) Ppu.startVblank (u.lineOrNot rd)).advance_eq
  rw [clock_notVisible h, after]
  exact (doIf_part Ppu.frame (fun _ => by rfl) _).trans (u.lineOrNot_frame rd).frame

/-! ## Background, foreground, the winner and its colour -/

theorem toNat_planeBits (hi lo : Bool) : (planeBits hi lo).toNat = 2 * hi.toNat + lo.toNat := by
  cases hi <;> cases lo <;> rfl

/-- The background or the sprites are shown in a dot: on, and not in the clipped eight columns (R344, R390; log 8). -/
theorem shown_iff (on leftClip left : Bool) (d : Nat) : (on = true ∧ (¬leftClip = true ∨ left = true ∨ 9 ≤ d)) ↔
    on = true ∧ (leftClip = false ∨ left = true ∨ 9 ≤ d) := by
  rw [Bool.not_eq_true]

theorem Ppu.bgPixel_eq (u : Ppu) (leftClip : Bool) (d : Nat) :
    let k := 15 - u.fineX.toNat
    ((u.bgPixel leftClip d).px.toNat, (u.bgPixel leftClip d).pal.toNat) =
      if u.mask.getLsbD 3 = true ∧ (leftClip = false ∨ u.mask.getLsbD 1 = true ∨ 9 ≤ d) then
        (2 * (u.bgHi.getLsbD k).toNat + (u.bgLo.getLsbD k).toNat,
          2 * (u.bgAtHi.getLsbD k).toNat + (u.bgAtLo.getLsbD k).toNat)
      else (0, 0) := by
  intro k
  have same : (u.renderBg = true ∧ (¬leftClip = true ∨ u.bgLeft = true ∨ 9 ≤ d)) ↔
      u.mask.getLsbD 3 = true ∧ (leftClip = false ∨ u.mask.getLsbD 1 = true ∨ 9 ≤ d) := shown_iff ..
  unfold Ppu.bgPixel
  simp only [same]
  split
  · dsimp only
    rw [toNat_planeBits, BitVec.toNat_setWidth_of_le (by decide), toNat_planeBits]
  · rfl

/-- What the scan of the slots looks for: a slot at its column whose leftmost pixel is opaque (R391). -/
def Slot.opaqueHere (sl : Slot) : Bool := sl.x == 0 && sl.px != 0

theorem Slot.opaqueHere_iff (sl : Slot) : sl.opaqueHere = true ↔
    sl.x.toNat = 0 ∧ 0 < 2 * (sl.hi.getLsbD 7).toNat + (sl.lo.getLsbD 7).toNat := by
  rw [← toNat_planeBits, opaqueHere, Bool.and_eq_true, beq_iff_eq, bne_iff_ne, px]
  bv_omega

/-- The slots the scan looks at, with their numbers. -/
def Ppu.scanned (u : Ppu) : List (Slot × Nat) := (u.slots.toList.take u.spriteCount).zipIdx

theorem Ppu.length_scanned (u : Ppu) : u.scanned.length = min u.spriteCount 8 := by
  rw [scanned, List.length_zipIdx, List.length_take, Vector.length_toList]

theorem Ppu.getElem_scanned (u : Ppu) {i : Nat} (h : i < u.scanned.length) :
    u.scanned[i] = (u.slots[i]'(by rw [length_scanned] at h; omega), i) := by
  simp only [scanned, List.getElem_zipIdx, List.getElem_take, Vector.getElem_toList, Nat.zero_add]

theorem Ppu.find_scanned_of_first (u : Ppu) {i : Fin 8} (selected : i.val < u.spriteCount)
    (hit : u.slots[i].opaqueHere = true) (first : ∀ j : Fin 8, j < i → u.slots[j].opaqueHere = false) :
    u.scanned.find? (fun c => c.1.opaqueHere) = some (u.slots[i], i.val) := by
  have inside : i.val < u.scanned.length := by rw [length_scanned]; omega
  rw [List.find?_eq_some_iff_getElem]
  refine ⟨hit, i.val, inside, u.getElem_scanned inside, fun j hj => ?_⟩
  rw [u.getElem_scanned]
  have miss := first ⟨j, by omega⟩ hj
  dsimp only [Fin.getElem_fin] at miss ⊢
  rw [miss]
  rfl

theorem Ppu.find_scanned_of_none (u : Ppu) (none : ∀ i : Fin 8, i.val < u.spriteCount → u.slots[i].opaqueHere = false) :
    u.scanned.find? (fun c => c.1.opaqueHere) = Option.none := by
  rw [List.find?_eq_none]
  intro c hc
  obtain ⟨i, hi, rfl⟩ := List.getElem_of_mem hc
  have := hi
  rw [length_scanned] at this
  rw [u.getElem_scanned, Bool.not_eq_true]
  exact none ⟨i, by omega⟩ (by dsimp only; omega)

/-- The foreground when the first opaque slot is slot `i` (R391). -/
theorem Ppu.fgPixel_of_first (u : Ppu) (leftClip : Bool) (d : Nat) {i : Fin 8}
    (shown : u.mask.getLsbD 4 = true ∧ (leftClip = false ∨ u.mask.getLsbD 2 = true ∨ 9 ≤ d))
    (found : u.scanned.find? (fun c => c.1.opaqueHere) = some (u.slots[i], i.val)) :
    u.fgPixel leftClip d =
      { pixel := { px := u.slots[i].px, pal := (u.slots[i].attr.extractLsb' 0 2).setWidth 3 + 4 },
        front := !u.slots[i].attr.getLsbD 5, zeroDrawn := i.val == 0 } := by
  unfold Ppu.fgPixel
  dsimp only
  rw [if_pos (show u.renderSpr = true ∧ (¬leftClip = true ∨ u.sprLeft = true ∨ 9 ≤ d) from (shown_iff ..).mpr shown)]
  split
  next sl n h =>
    obtain ⟨rfl, rfl⟩ := Prod.mk.inj (Option.some.inj (h.symm.trans found))
    rfl
  next h => exact absurd (h.symm.trans found) (by simp)

/-- The foreground when the sprites are not shown or no slot is opaque there (R391). -/
theorem Ppu.fgPixel_of_none (u : Ppu) (leftClip : Bool) (d : Nat)
    (h : ¬(u.mask.getLsbD 4 = true ∧ (leftClip = false ∨ u.mask.getLsbD 2 = true ∨ 9 ≤ d))
      ∨ u.scanned.find? (fun c => c.1.opaqueHere) = Option.none) :
    u.fgPixel leftClip d = { pixel := { px := 0, pal := 0 }, front := false, zeroDrawn := false } := by
  unfold Ppu.fgPixel
  dsimp only
  split
  next shown =>
    have found := h.resolve_left (not_not.mpr ((shown_iff ..).mp shown))
    split
    next h => exact absurd (h.symm.trans found) (by simp)
    next => rfl
  next => rfl

/-- The address of a pixel's palette entry (R394). -/
theorem Pixel.colourAddr_eq (q : Pixel) : q.colourAddr = BitVec.ofNat 14 (0x3F00 + 4 * q.pal.toNat + q.px.toNat) := by
  have pal : (q.pal.setWidth 14 <<< 2 : BitVec 14).toNat = 4 * q.pal.toNat := by
    rw [BitVec.toNat_shiftLeft, BitVec.toNat_setWidth_of_le (by decide), Nat.shiftLeft_eq]
    omega
  have px : (q.px.setWidth 14 : BitVec 14).toNat = q.px.toNat := BitVec.toNat_setWidth_of_le (by decide)
  apply BitVec.eq_of_toNat_eq
  rw [colourAddr, BitVec.toNat_add, BitVec.toNat_add, pal, px, BitVec.toNat_ofNat, Nat.mod_add_mod]
  rfl

/-- The precedence table as pixel and palette (R392). -/
theorem combine_eq (bg : Pixel) (fg : Foreground) : ((combine bg fg).px, (combine bg fg).pal) =
    if bg.px = 0 then (if fg.pixel.px = 0 then (0, 0) else (fg.pixel.px, fg.pixel.pal))
      else if fg.pixel.px = 0 then (bg.px, bg.pal)
      else if fg.front then (fg.pixel.px, fg.pixel.pal) else (bg.px, bg.pal) := by
  unfold combine
  split
  · split <;> rfl
  · split
    · rfl
    · split <;> rfl

/-- `Composite()` writes the winner's colour in the one cell of the dot (R394, R395). -/
theorem Ppu.composite_frame (u : Ppu) (rd : BitVec 14 → Byte) (leftClip : Bool) {line d : Nat} (hd : 1 ≤ d)
    (hd' : d ≤ 256) {x y : Nat} (hx : x < 256) :
    Mem.read (u.composite rd leftClip line d).frame (256 * y + x) =
      if x = d - 1 ∧ y = line then rd (combine (u.bgPixel leftClip d) (u.fgPixel leftClip d)).colourAddr &&& 0x3F
      else Mem.read u.frame (256 * y + x) := by
  have cell : 256 * y + x = 256 * line + (d - 1) ↔ x = d - 1 ∧ y = line := by omega
  simp only [← cell]
  exact Mem.read_write ..

/-- The sprite-zero hit of a dot (R393). -/
theorem Ppu.zeroHitNow_iff (u : Ppu) (bg : Pixel) (fg : Foreground) (d : Nat) : u.zeroHitNow bg fg d = true ↔
    bg.px ≠ 0 ∧ fg.pixel.px ≠ 0 ∧ u.zeroPossible = true ∧ fg.zeroDrawn = true ∧ u.mask.getLsbD 3 = true
      ∧ u.mask.getLsbD 4 = true ∧ ((u.mask.getLsbD 1 = true ∧ u.mask.getLsbD 2 = true) ∨ 9 ≤ d) := by
  simp only [zeroHitNow, renderBg, renderSpr, bgLeft, sprLeft, Bool.and_eq_true, Bool.or_eq_true, bne_iff_ne,
    decide_eq_true_eq, and_assoc]

/-- Settles O52: the dot of the line gives the background registers, and the pixel is taken apart into background,
foreground, winner and colour. -/
theorem compositingOfADot : Obligations.CompositingOfADot := by
  unfold Obligations.CompositingOfADot
  refine ⟨fun u rd clip => ⟨u.clock_background rd clip, fun visible => u.clock_drawn visible rd clip,
    fun notVisible => Ppu.clock_notDrawn notVisible rd clip⟩, fun u rd clip line d hline hd hd' => ?_⟩
  have drawn (i : Fin 8) : (i.val < u.spriteCount ∧ u.slots[i].x.toNat = 0
      ∧ 0 < 2 * (u.slots[i].hi.getLsbD 7).toNat + (u.slots[i].lo.getLsbD 7).toNat)
      ↔ i.val < u.spriteCount ∧ u.slots[i].opaqueHere = true := and_congr_right fun _ => (Slot.opaqueHere_iff _).symm
  refine ⟨u.bgPixel_eq clip d, fun i shown here first => ?_, fun hidden => ?_, fun x y hx _ => ?_, ?_⟩
  · obtain ⟨selected, hit⟩ := (drawn i).mp here
    have found := u.find_scanned_of_first selected hit fun j hj =>
      Bool.not_eq_true _ |>.mp fun k => first j hj ((drawn j).mpr ⟨by omega, k⟩)
    have pal : ((u.slots[i].attr.extractLsb' 0 2).setWidth 3 + 4 : BitVec 3).toNat = u.slots[i].attr.toNat % 4 + 4 := by
      rw [BitVec.toNat_add, BitVec.toNat_setWidth_of_le (by decide), extractLsb'_low, BitVec.toNat_ofNat, Nat.mod_mod]
      have four : (4 : BitVec 3).toNat = 4 := rfl
      omega
    rw [u.fgPixel_of_first clip d shown found]
    exact ⟨toNat_planeBits _ _, pal, rfl, by rw [beq_eq_decide]; exact decide_eq_decide.mpr (Fin.ext_iff (b := 0)).symm⟩
  · have transparent := u.fgPixel_of_none clip d <| hidden.imp_right fun none => u.find_scanned_of_none fun i selected =>
      Bool.not_eq_true _ |>.mp fun k => none i ((drawn i).mpr ⟨selected, k⟩)
    rw [transparent]
    exact ⟨rfl, rfl⟩
  · rw [u.composite_frame rd clip hd hd' hx, Pixel.colourAddr_eq, ← combine_eq]
  · show (u.zeroHit || u.zeroHitNow _ _ _) = true ↔ _
    rw [Bool.or_eq_true, u.zeroHitNow_iff]

end Sys2Proof.Machine
